-- ==== Sys2Proof/Word.lean ====
section
/-! DEFINITION. The word types of the core: 8-bit data and 16-bit addresses (00_scope.md R8, R10). -/

namespace Sys2Proof

/-- A register, flag or memory byte (R8: data width 8 bits). -/
abbrev Byte := BitVec 8

/-- A bus address or the program counter (R8: address width 16 bits). -/
abbrev Addr := BitVec 16

end Sys2Proof
end

