-- ==== Sys2Proof/Config.lean ====
section
/-! DEFINITION. What is fixed for the machine: the fixed numbers of 00_scope.md R8 and 20_memory.md R89, and the
answers the spec leaves to the platform (a supplied EXT_REGION, R83; what a MAPPER_TRANSLATE does not write out, R81).
An opaque constant has no body: nothing in Lean can evaluate it, so a claim holds for every answer. -/

namespace Sys2Proof

/-- One access a supplied EXT_REGION device has seen (R83). -/
inductive ExtAccess where
  | read (address : Addr)
  | write (address : Addr) (value : Byte)
deriving DecidableEq, Repr

/-- R8, R73: internal RAM is 2048 bytes. -/
def Config.ramBytes : Nat := 0x800

/-- R8, R72: internal RAM and its mirrors end below this address. -/
def Config.ramTop : Nat := 0x2000

/-- R72: the cartridge window begins here. -/
def Config.cartBase : Nat := 0x8000

/-- R74: the stack page. -/
def Config.stackPage : Nat := 0x0100

/-- R89: the reset vector. -/
def Config.resetVector : Addr := 0xFFFC

/-- R89: the first of the four vector bytes, 0xFFFC to 0xFFFF. -/
def Config.vectorBase : Nat := 0xFFFC

/-- R89: the BRK vector. -/
def Config.brkVector : Addr := 0xFFFE

/-- R8, D9: the default of the parameter P_RESET. -/
def Config.pResetDefault : Byte := 0x00

/-- What a byte of RAM or PRG that no image, load or store has set reads as.
DESIGN CHOICE, unsafe (log 2, log 3): RAM_INIT and PRG have no default in the spec; State.reset takes the zero image. -/
def Config.unlistedByte : Byte := 0x00

/-- R83: what a supplied EXT_REGION device answers to a read, from the accesses it has seen; none is InvalidBusAddress.
DESIGN CHOICE, safe (log 9): a free value, applied to the plain history of the device. -/
opaque Config.extRead : List ExtAccess → Addr → Option Byte

/-- R83: whether a supplied EXT_REGION device takes a write (false is InvalidBusAddress).
DESIGN CHOICE, safe (log 9): a free value. -/
opaque Config.extTakes : List ExtAccess → Addr → Byte → Bool

/-- R81: a function of the PRG buffer, its length, the mapper's state, the address and the byte written that a supplied
MAPPER_TRANSLATE may use and this model does not fix; the number tells such functions apart.
DESIGN CHOICE, safe (log 10): a free value. -/
opaque Config.mapperFree : Nat → List Host.Cell → Nat → Nat → Addr → Byte → Nat

end Sys2Proof
end

