-- ==== Sys2Proof/Syntax.lean ====
section
/-! DEFINITION. The instructions of opcode_table.json: one constructor per documented row (30_encoding.md R115), and the
illegal entry for the 105 illegal rows (R114, R116; log 17). The operand byte or word is the constructor's argument. -/

namespace Sys2Proof

/-- The 56 mnemonics of R115 and the table's name of the illegal entry. -/
inductive Mnemonic where
  | LDA | LDX | LDY | STA | STX | STY | TAX | TAY | TXA | TYA | TSX | TXS | ADC | SBC
  | AND | ORA | EOR | BIT | CMP | CPX | CPY | INC | DEC | INX | INY | DEX | DEY | ASL
  | LSR | ROL | ROR | PHA | PHP | PLA | PLP | JMP | JSR | RTS | BCC | BCS | BEQ | BNE
  | BMI | BPL | BVC | BVS | CLC | SEC | CLI | SEI | CLV | CLD | SED | NOP | BRK | RTI
  | ILLEGAL
deriving DecidableEq, Repr

/-- The 13 addressing modes of R111. -/
inductive Mode where
  | imp | acc | imm | zp | zpx | zpy | abs | absx | absy | ind | indx | indy | rel
deriving DecidableEq, Repr

/-- R122: the access classes. -/
inductive AccessClass where
  | read | write | rmw | registerOnly | stack | control
deriving DecidableEq, Repr

/-- An operand whose mode yields an effective address (R145), with its operand byte or word. -/
inductive Addressed where
  | zp (z : Byte)
  | zpx (z : Byte)
  | zpy (z : Byte)
  | abs (w : Addr)
  | absx (w : Addr)
  | absy (w : Addr)
  | indx (z : Byte)
  | indy (z : Byte)
deriving DecidableEq, Repr

/-- The operand of an instruction of class read (R160). -/
inductive Source where
  | imm (v : Byte)
  | mem (m : Addressed)
deriving DecidableEq, Repr

/-- The operand of a shift or rotate (43_shift_rotate.md): the accumulator or memory. -/
inductive Target where
  | acc
  | mem (m : Addressed)
deriving DecidableEq, Repr

/-- The instructions: every documented row of the opcode table, and the illegal entry with its opcode byte. -/
inductive Instr where
  /-- LDA IMM, opcode 0xA9 (R180). -/
  | ldaImm (v : Byte)
  /-- LDA ZP, opcode 0xA5 (R180). -/
  | ldaZp (z : Byte)
  /-- LDA ZPX, opcode 0xB5 (R180). -/
  | ldaZpx (z : Byte)
  /-- LDA ABS, opcode 0xAD (R180). -/
  | ldaAbs (w : Addr)
  /-- LDA ABSX, opcode 0xBD (R180). -/
  | ldaAbsx (w : Addr)
  /-- LDA ABSY, opcode 0xB9 (R180). -/
  | ldaAbsy (w : Addr)
  /-- LDA INDX, opcode 0xA1 (R180). -/
  | ldaIndx (z : Byte)
  /-- LDA INDY, opcode 0xB1 (R180). -/
  | ldaIndy (z : Byte)
  /-- LDX IMM, opcode 0xA2 (R181). -/
  | ldxImm (v : Byte)
  /-- LDX ZP, opcode 0xA6 (R181). -/
  | ldxZp (z : Byte)
  /-- LDX ZPY, opcode 0xB6 (R181). -/
  | ldxZpy (z : Byte)
  /-- LDX ABS, opcode 0xAE (R181). -/
  | ldxAbs (w : Addr)
  /-- LDX ABSY, opcode 0xBE (R181). -/
  | ldxAbsy (w : Addr)
  /-- LDY IMM, opcode 0xA0 (R182). -/
  | ldyImm (v : Byte)
  /-- LDY ZP, opcode 0xA4 (R182). -/
  | ldyZp (z : Byte)
  /-- LDY ZPX, opcode 0xB4 (R182). -/
  | ldyZpx (z : Byte)
  /-- LDY ABS, opcode 0xAC (R182). -/
  | ldyAbs (w : Addr)
  /-- LDY ABSX, opcode 0xBC (R182). -/
  | ldyAbsx (w : Addr)
  /-- STA ZP, opcode 0x85 (R183). -/
  | staZp (z : Byte)
  /-- STA ZPX, opcode 0x95 (R183). -/
  | staZpx (z : Byte)
  /-- STA ABS, opcode 0x8D (R183). -/
  | staAbs (w : Addr)
  /-- STA ABSX, opcode 0x9D (R183). -/
  | staAbsx (w : Addr)
  /-- STA ABSY, opcode 0x99 (R183). -/
  | staAbsy (w : Addr)
  /-- STA INDX, opcode 0x81 (R183). -/
  | staIndx (z : Byte)
  /-- STA INDY, opcode 0x91 (R183). -/
  | staIndy (z : Byte)
  /-- STX ZP, opcode 0x86 (R184). -/
  | stxZp (z : Byte)
  /-- STX ZPY, opcode 0x96 (R184). -/
  | stxZpy (z : Byte)
  /-- STX ABS, opcode 0x8E (R184). -/
  | stxAbs (w : Addr)
  /-- STY ZP, opcode 0x84 (R185). -/
  | styZp (z : Byte)
  /-- STY ZPX, opcode 0x94 (R185). -/
  | styZpx (z : Byte)
  /-- STY ABS, opcode 0x8C (R185). -/
  | styAbs (w : Addr)
  /-- TAX IMP, opcode 0xAA (R186). -/
  | tax
  /-- TAY IMP, opcode 0xA8 (R187). -/
  | tay
  /-- TXA IMP, opcode 0x8A (R188). -/
  | txa
  /-- TYA IMP, opcode 0x98 (R189). -/
  | tya
  /-- TSX IMP, opcode 0xBA (R190). -/
  | tsx
  /-- TXS IMP, opcode 0x9A (R191). -/
  | txs
  /-- ADC IMM, opcode 0x69 (R200). -/
  | adcImm (v : Byte)
  /-- ADC ZP, opcode 0x65 (R200). -/
  | adcZp (z : Byte)
  /-- ADC ZPX, opcode 0x75 (R200). -/
  | adcZpx (z : Byte)
  /-- ADC ABS, opcode 0x6D (R200). -/
  | adcAbs (w : Addr)
  /-- ADC ABSX, opcode 0x7D (R200). -/
  | adcAbsx (w : Addr)
  /-- ADC ABSY, opcode 0x79 (R200). -/
  | adcAbsy (w : Addr)
  /-- ADC INDX, opcode 0x61 (R200). -/
  | adcIndx (z : Byte)
  /-- ADC INDY, opcode 0x71 (R200). -/
  | adcIndy (z : Byte)
  /-- SBC IMM, opcode 0xE9 (R201). -/
  | sbcImm (v : Byte)
  /-- SBC ZP, opcode 0xE5 (R201). -/
  | sbcZp (z : Byte)
  /-- SBC ZPX, opcode 0xF5 (R201). -/
  | sbcZpx (z : Byte)
  /-- SBC ABS, opcode 0xED (R201). -/
  | sbcAbs (w : Addr)
  /-- SBC ABSX, opcode 0xFD (R201). -/
  | sbcAbsx (w : Addr)
  /-- SBC ABSY, opcode 0xF9 (R201). -/
  | sbcAbsy (w : Addr)
  /-- SBC INDX, opcode 0xE1 (R201). -/
  | sbcIndx (z : Byte)
  /-- SBC INDY, opcode 0xF1 (R201). -/
  | sbcIndy (z : Byte)
  /-- AND IMM, opcode 0x29 (R202). -/
  | andImm (v : Byte)
  /-- AND ZP, opcode 0x25 (R202). -/
  | andZp (z : Byte)
  /-- AND ZPX, opcode 0x35 (R202). -/
  | andZpx (z : Byte)
  /-- AND ABS, opcode 0x2D (R202). -/
  | andAbs (w : Addr)
  /-- AND ABSX, opcode 0x3D (R202). -/
  | andAbsx (w : Addr)
  /-- AND ABSY, opcode 0x39 (R202). -/
  | andAbsy (w : Addr)
  /-- AND INDX, opcode 0x21 (R202). -/
  | andIndx (z : Byte)
  /-- AND INDY, opcode 0x31 (R202). -/
  | andIndy (z : Byte)
  /-- ORA IMM, opcode 0x09 (R203). -/
  | oraImm (v : Byte)
  /-- ORA ZP, opcode 0x05 (R203). -/
  | oraZp (z : Byte)
  /-- ORA ZPX, opcode 0x15 (R203). -/
  | oraZpx (z : Byte)
  /-- ORA ABS, opcode 0x0D (R203). -/
  | oraAbs (w : Addr)
  /-- ORA ABSX, opcode 0x1D (R203). -/
  | oraAbsx (w : Addr)
  /-- ORA ABSY, opcode 0x19 (R203). -/
  | oraAbsy (w : Addr)
  /-- ORA INDX, opcode 0x01 (R203). -/
  | oraIndx (z : Byte)
  /-- ORA INDY, opcode 0x11 (R203). -/
  | oraIndy (z : Byte)
  /-- EOR IMM, opcode 0x49 (R204). -/
  | eorImm (v : Byte)
  /-- EOR ZP, opcode 0x45 (R204). -/
  | eorZp (z : Byte)
  /-- EOR ZPX, opcode 0x55 (R204). -/
  | eorZpx (z : Byte)
  /-- EOR ABS, opcode 0x4D (R204). -/
  | eorAbs (w : Addr)
  /-- EOR ABSX, opcode 0x5D (R204). -/
  | eorAbsx (w : Addr)
  /-- EOR ABSY, opcode 0x59 (R204). -/
  | eorAbsy (w : Addr)
  /-- EOR INDX, opcode 0x41 (R204). -/
  | eorIndx (z : Byte)
  /-- EOR INDY, opcode 0x51 (R204). -/
  | eorIndy (z : Byte)
  /-- BIT ZP, opcode 0x24 (R205). -/
  | bitZp (z : Byte)
  /-- BIT ABS, opcode 0x2C (R205). -/
  | bitAbs (w : Addr)
  /-- CMP IMM, opcode 0xC9 (R206). -/
  | cmpImm (v : Byte)
  /-- CMP ZP, opcode 0xC5 (R206). -/
  | cmpZp (z : Byte)
  /-- CMP ZPX, opcode 0xD5 (R206). -/
  | cmpZpx (z : Byte)
  /-- CMP ABS, opcode 0xCD (R206). -/
  | cmpAbs (w : Addr)
  /-- CMP ABSX, opcode 0xDD (R206). -/
  | cmpAbsx (w : Addr)
  /-- CMP ABSY, opcode 0xD9 (R206). -/
  | cmpAbsy (w : Addr)
  /-- CMP INDX, opcode 0xC1 (R206). -/
  | cmpIndx (z : Byte)
  /-- CMP INDY, opcode 0xD1 (R206). -/
  | cmpIndy (z : Byte)
  /-- CPX IMM, opcode 0xE0 (R207). -/
  | cpxImm (v : Byte)
  /-- CPX ZP, opcode 0xE4 (R207). -/
  | cpxZp (z : Byte)
  /-- CPX ABS, opcode 0xEC (R207). -/
  | cpxAbs (w : Addr)
  /-- CPY IMM, opcode 0xC0 (R208). -/
  | cpyImm (v : Byte)
  /-- CPY ZP, opcode 0xC4 (R208). -/
  | cpyZp (z : Byte)
  /-- CPY ABS, opcode 0xCC (R208). -/
  | cpyAbs (w : Addr)
  /-- INC ZP, opcode 0xE6 (R209). -/
  | incZp (z : Byte)
  /-- INC ZPX, opcode 0xF6 (R209). -/
  | incZpx (z : Byte)
  /-- INC ABS, opcode 0xEE (R209). -/
  | incAbs (w : Addr)
  /-- INC ABSX, opcode 0xFE (R209). -/
  | incAbsx (w : Addr)
  /-- DEC ZP, opcode 0xC6 (R210). -/
  | decZp (z : Byte)
  /-- DEC ZPX, opcode 0xD6 (R210). -/
  | decZpx (z : Byte)
  /-- DEC ABS, opcode 0xCE (R210). -/
  | decAbs (w : Addr)
  /-- DEC ABSX, opcode 0xDE (R210). -/
  | decAbsx (w : Addr)
  /-- INX IMP, opcode 0xE8 (R211). -/
  | inx
  /-- INY IMP, opcode 0xC8 (R212). -/
  | iny
  /-- DEX IMP, opcode 0xCA (R213). -/
  | dex
  /-- DEY IMP, opcode 0x88 (R214). -/
  | dey
  /-- ASL ACC, opcode 0x0A (R230). -/
  | aslAcc
  /-- ASL ZP, opcode 0x06 (R230). -/
  | aslZp (z : Byte)
  /-- ASL ZPX, opcode 0x16 (R230). -/
  | aslZpx (z : Byte)
  /-- ASL ABS, opcode 0x0E (R230). -/
  | aslAbs (w : Addr)
  /-- ASL ABSX, opcode 0x1E (R230). -/
  | aslAbsx (w : Addr)
  /-- LSR ACC, opcode 0x4A (R231). -/
  | lsrAcc
  /-- LSR ZP, opcode 0x46 (R231). -/
  | lsrZp (z : Byte)
  /-- LSR ZPX, opcode 0x56 (R231). -/
  | lsrZpx (z : Byte)
  /-- LSR ABS, opcode 0x4E (R231). -/
  | lsrAbs (w : Addr)
  /-- LSR ABSX, opcode 0x5E (R231). -/
  | lsrAbsx (w : Addr)
  /-- ROL ACC, opcode 0x2A (R232). -/
  | rolAcc
  /-- ROL ZP, opcode 0x26 (R232). -/
  | rolZp (z : Byte)
  /-- ROL ZPX, opcode 0x36 (R232). -/
  | rolZpx (z : Byte)
  /-- ROL ABS, opcode 0x2E (R232). -/
  | rolAbs (w : Addr)
  /-- ROL ABSX, opcode 0x3E (R232). -/
  | rolAbsx (w : Addr)
  /-- ROR ACC, opcode 0x6A (R233). -/
  | rorAcc
  /-- ROR ZP, opcode 0x66 (R233). -/
  | rorZp (z : Byte)
  /-- ROR ZPX, opcode 0x76 (R233). -/
  | rorZpx (z : Byte)
  /-- ROR ABS, opcode 0x6E (R233). -/
  | rorAbs (w : Addr)
  /-- ROR ABSX, opcode 0x7E (R233). -/
  | rorAbsx (w : Addr)
  /-- PHA IMP, opcode 0x48 (R240). -/
  | pha
  /-- PHP IMP, opcode 0x08 (R241). -/
  | php
  /-- PLA IMP, opcode 0x68 (R242). -/
  | pla
  /-- PLP IMP, opcode 0x28 (R243). -/
  | plp
  /-- JMP ABS, opcode 0x4C (R250). -/
  | jmpAbs (w : Addr)
  /-- JMP IND, opcode 0x6C (R250). -/
  | jmpInd (w : Addr)
  /-- JSR ABS, opcode 0x20 (R251). -/
  | jsr (w : Addr)
  /-- RTS IMP, opcode 0x60 (R252). -/
  | rts
  /-- BCC REL, opcode 0x90 (R254). -/
  | bcc (r : Byte)
  /-- BCS REL, opcode 0xB0 (R255). -/
  | bcs (r : Byte)
  /-- BEQ REL, opcode 0xF0 (R256). -/
  | beq (r : Byte)
  /-- BNE REL, opcode 0xD0 (R257). -/
  | bne (r : Byte)
  /-- BMI REL, opcode 0x30 (R258). -/
  | bmi (r : Byte)
  /-- BPL REL, opcode 0x10 (R259). -/
  | bpl (r : Byte)
  /-- BVC REL, opcode 0x50 (R260). -/
  | bvc (r : Byte)
  /-- BVS REL, opcode 0x70 (R261). -/
  | bvs (r : Byte)
  /-- CLC IMP, opcode 0x18 (R270). -/
  | clc
  /-- SEC IMP, opcode 0x38 (R271). -/
  | sec
  /-- CLI IMP, opcode 0x58 (R272). -/
  | cli
  /-- SEI IMP, opcode 0x78 (R273). -/
  | sei
  /-- CLV IMP, opcode 0xB8 (R274). -/
  | clv
  /-- CLD IMP, opcode 0xD8 (R275). -/
  | cld
  /-- SED IMP, opcode 0xF8 (R276). -/
  | sed
  /-- NOP IMP, opcode 0xEA (R277). -/
  | nop
  /-- BRK IMP, opcode 0x00 (R278). -/
  | brk
  /-- RTI IMP, opcode 0x40 (R279). -/
  | rti
  /-- ILLEGAL: one of the 105 opcode bytes of R116. -/
  | illegal (op : Byte)
deriving DecidableEq, Repr

/-- R114: the mnemonic of the descriptor. -/
def Instr.mnemonic : Instr → Mnemonic
  | .ldaImm _ => .LDA
  | .ldaZp _ => .LDA
  | .ldaZpx _ => .LDA
  | .ldaAbs _ => .LDA
  | .ldaAbsx _ => .LDA
  | .ldaAbsy _ => .LDA
  | .ldaIndx _ => .LDA
  | .ldaIndy _ => .LDA
  | .ldxImm _ => .LDX
  | .ldxZp _ => .LDX
  | .ldxZpy _ => .LDX
  | .ldxAbs _ => .LDX
  | .ldxAbsy _ => .LDX
  | .ldyImm _ => .LDY
  | .ldyZp _ => .LDY
  | .ldyZpx _ => .LDY
  | .ldyAbs _ => .LDY
  | .ldyAbsx _ => .LDY
  | .staZp _ => .STA
  | .staZpx _ => .STA
  | .staAbs _ => .STA
  | .staAbsx _ => .STA
  | .staAbsy _ => .STA
  | .staIndx _ => .STA
  | .staIndy _ => .STA
  | .stxZp _ => .STX
  | .stxZpy _ => .STX
  | .stxAbs _ => .STX
  | .styZp _ => .STY
  | .styZpx _ => .STY
  | .styAbs _ => .STY
  | .tax => .TAX
  | .tay => .TAY
  | .txa => .TXA
  | .tya => .TYA
  | .tsx => .TSX
  | .txs => .TXS
  | .adcImm _ => .ADC
  | .adcZp _ => .ADC
  | .adcZpx _ => .ADC
  | .adcAbs _ => .ADC
  | .adcAbsx _ => .ADC
  | .adcAbsy _ => .ADC
  | .adcIndx _ => .ADC
  | .adcIndy _ => .ADC
  | .sbcImm _ => .SBC
  | .sbcZp _ => .SBC
  | .sbcZpx _ => .SBC
  | .sbcAbs _ => .SBC
  | .sbcAbsx _ => .SBC
  | .sbcAbsy _ => .SBC
  | .sbcIndx _ => .SBC
  | .sbcIndy _ => .SBC
  | .andImm _ => .AND
  | .andZp _ => .AND
  | .andZpx _ => .AND
  | .andAbs _ => .AND
  | .andAbsx _ => .AND
  | .andAbsy _ => .AND
  | .andIndx _ => .AND
  | .andIndy _ => .AND
  | .oraImm _ => .ORA
  | .oraZp _ => .ORA
  | .oraZpx _ => .ORA
  | .oraAbs _ => .ORA
  | .oraAbsx _ => .ORA
  | .oraAbsy _ => .ORA
  | .oraIndx _ => .ORA
  | .oraIndy _ => .ORA
  | .eorImm _ => .EOR
  | .eorZp _ => .EOR
  | .eorZpx _ => .EOR
  | .eorAbs _ => .EOR
  | .eorAbsx _ => .EOR
  | .eorAbsy _ => .EOR
  | .eorIndx _ => .EOR
  | .eorIndy _ => .EOR
  | .bitZp _ => .BIT
  | .bitAbs _ => .BIT
  | .cmpImm _ => .CMP
  | .cmpZp _ => .CMP
  | .cmpZpx _ => .CMP
  | .cmpAbs _ => .CMP
  | .cmpAbsx _ => .CMP
  | .cmpAbsy _ => .CMP
  | .cmpIndx _ => .CMP
  | .cmpIndy _ => .CMP
  | .cpxImm _ => .CPX
  | .cpxZp _ => .CPX
  | .cpxAbs _ => .CPX
  | .cpyImm _ => .CPY
  | .cpyZp _ => .CPY
  | .cpyAbs _ => .CPY
  | .incZp _ => .INC
  | .incZpx _ => .INC
  | .incAbs _ => .INC
  | .incAbsx _ => .INC
  | .decZp _ => .DEC
  | .decZpx _ => .DEC
  | .decAbs _ => .DEC
  | .decAbsx _ => .DEC
  | .inx => .INX
  | .iny => .INY
  | .dex => .DEX
  | .dey => .DEY
  | .aslAcc => .ASL
  | .aslZp _ => .ASL
  | .aslZpx _ => .ASL
  | .aslAbs _ => .ASL
  | .aslAbsx _ => .ASL
  | .lsrAcc => .LSR
  | .lsrZp _ => .LSR
  | .lsrZpx _ => .LSR
  | .lsrAbs _ => .LSR
  | .lsrAbsx _ => .LSR
  | .rolAcc => .ROL
  | .rolZp _ => .ROL
  | .rolZpx _ => .ROL
  | .rolAbs _ => .ROL
  | .rolAbsx _ => .ROL
  | .rorAcc => .ROR
  | .rorZp _ => .ROR
  | .rorZpx _ => .ROR
  | .rorAbs _ => .ROR
  | .rorAbsx _ => .ROR
  | .pha => .PHA
  | .php => .PHP
  | .pla => .PLA
  | .plp => .PLP
  | .jmpAbs _ => .JMP
  | .jmpInd _ => .JMP
  | .jsr _ => .JSR
  | .rts => .RTS
  | .bcc _ => .BCC
  | .bcs _ => .BCS
  | .beq _ => .BEQ
  | .bne _ => .BNE
  | .bmi _ => .BMI
  | .bpl _ => .BPL
  | .bvc _ => .BVC
  | .bvs _ => .BVS
  | .clc => .CLC
  | .sec => .SEC
  | .cli => .CLI
  | .sei => .SEI
  | .clv => .CLV
  | .cld => .CLD
  | .sed => .SED
  | .nop => .NOP
  | .brk => .BRK
  | .rti => .RTI
  | .illegal _ => .ILLEGAL

/-- R114: the addressing mode of the descriptor; the illegal entry has none (R116). -/
def Instr.mode : Instr → Option Mode
  | .ldaImm _ => some .imm
  | .ldaZp _ => some .zp
  | .ldaZpx _ => some .zpx
  | .ldaAbs _ => some .abs
  | .ldaAbsx _ => some .absx
  | .ldaAbsy _ => some .absy
  | .ldaIndx _ => some .indx
  | .ldaIndy _ => some .indy
  | .ldxImm _ => some .imm
  | .ldxZp _ => some .zp
  | .ldxZpy _ => some .zpy
  | .ldxAbs _ => some .abs
  | .ldxAbsy _ => some .absy
  | .ldyImm _ => some .imm
  | .ldyZp _ => some .zp
  | .ldyZpx _ => some .zpx
  | .ldyAbs _ => some .abs
  | .ldyAbsx _ => some .absx
  | .staZp _ => some .zp
  | .staZpx _ => some .zpx
  | .staAbs _ => some .abs
  | .staAbsx _ => some .absx
  | .staAbsy _ => some .absy
  | .staIndx _ => some .indx
  | .staIndy _ => some .indy
  | .stxZp _ => some .zp
  | .stxZpy _ => some .zpy
  | .stxAbs _ => some .abs
  | .styZp _ => some .zp
  | .styZpx _ => some .zpx
  | .styAbs _ => some .abs
  | .tax => some .imp
  | .tay => some .imp
  | .txa => some .imp
  | .tya => some .imp
  | .tsx => some .imp
  | .txs => some .imp
  | .adcImm _ => some .imm
  | .adcZp _ => some .zp
  | .adcZpx _ => some .zpx
  | .adcAbs _ => some .abs
  | .adcAbsx _ => some .absx
  | .adcAbsy _ => some .absy
  | .adcIndx _ => some .indx
  | .adcIndy _ => some .indy
  | .sbcImm _ => some .imm
  | .sbcZp _ => some .zp
  | .sbcZpx _ => some .zpx
  | .sbcAbs _ => some .abs
  | .sbcAbsx _ => some .absx
  | .sbcAbsy _ => some .absy
  | .sbcIndx _ => some .indx
  | .sbcIndy _ => some .indy
  | .andImm _ => some .imm
  | .andZp _ => some .zp
  | .andZpx _ => some .zpx
  | .andAbs _ => some .abs
  | .andAbsx _ => some .absx
  | .andAbsy _ => some .absy
  | .andIndx _ => some .indx
  | .andIndy _ => some .indy
  | .oraImm _ => some .imm
  | .oraZp _ => some .zp
  | .oraZpx _ => some .zpx
  | .oraAbs _ => some .abs
  | .oraAbsx _ => some .absx
  | .oraAbsy _ => some .absy
  | .oraIndx _ => some .indx
  | .oraIndy _ => some .indy
  | .eorImm _ => some .imm
  | .eorZp _ => some .zp
  | .eorZpx _ => some .zpx
  | .eorAbs _ => some .abs
  | .eorAbsx _ => some .absx
  | .eorAbsy _ => some .absy
  | .eorIndx _ => some .indx
  | .eorIndy _ => some .indy
  | .bitZp _ => some .zp
  | .bitAbs _ => some .abs
  | .cmpImm _ => some .imm
  | .cmpZp _ => some .zp
  | .cmpZpx _ => some .zpx
  | .cmpAbs _ => some .abs
  | .cmpAbsx _ => some .absx
  | .cmpAbsy _ => some .absy
  | .cmpIndx _ => some .indx
  | .cmpIndy _ => some .indy
  | .cpxImm _ => some .imm
  | .cpxZp _ => some .zp
  | .cpxAbs _ => some .abs
  | .cpyImm _ => some .imm
  | .cpyZp _ => some .zp
  | .cpyAbs _ => some .abs
  | .incZp _ => some .zp
  | .incZpx _ => some .zpx
  | .incAbs _ => some .abs
  | .incAbsx _ => some .absx
  | .decZp _ => some .zp
  | .decZpx _ => some .zpx
  | .decAbs _ => some .abs
  | .decAbsx _ => some .absx
  | .inx => some .imp
  | .iny => some .imp
  | .dex => some .imp
  | .dey => some .imp
  | .aslAcc => some .acc
  | .aslZp _ => some .zp
  | .aslZpx _ => some .zpx
  | .aslAbs _ => some .abs
  | .aslAbsx _ => some .absx
  | .lsrAcc => some .acc
  | .lsrZp _ => some .zp
  | .lsrZpx _ => some .zpx
  | .lsrAbs _ => some .abs
  | .lsrAbsx _ => some .absx
  | .rolAcc => some .acc
  | .rolZp _ => some .zp
  | .rolZpx _ => some .zpx
  | .rolAbs _ => some .abs
  | .rolAbsx _ => some .absx
  | .rorAcc => some .acc
  | .rorZp _ => some .zp
  | .rorZpx _ => some .zpx
  | .rorAbs _ => some .abs
  | .rorAbsx _ => some .absx
  | .pha => some .imp
  | .php => some .imp
  | .pla => some .imp
  | .plp => some .imp
  | .jmpAbs _ => some .abs
  | .jmpInd _ => some .ind
  | .jsr _ => some .abs
  | .rts => some .imp
  | .bcc _ => some .rel
  | .bcs _ => some .rel
  | .beq _ => some .rel
  | .bne _ => some .rel
  | .bmi _ => some .rel
  | .bpl _ => some .rel
  | .bvc _ => some .rel
  | .bvs _ => some .rel
  | .clc => some .imp
  | .sec => some .imp
  | .cli => some .imp
  | .sei => some .imp
  | .clv => some .imp
  | .cld => some .imp
  | .sed => some .imp
  | .nop => some .imp
  | .brk => some .imp
  | .rti => some .imp
  | .illegal _ => none

end Sys2Proof
end

