-- ==== Sys2Proof/Decode.lean ====
section
/-! DEFINITION. From bytes to instructions and back (30_encoding.md R110-R119): the bit-field helpers, the descriptor map
of R115 row by row, the decoder, the encoder, and what the descriptor says of an instruction (length, operand views). -/

namespace Sys2Proof

/-- R10: zero extension of a byte to an address. -/
def zext (b : Byte) : Addr := b.setWidth 16

/-- R10: sign extension of a byte to an address. -/
def sext (b : Byte) : Addr := b.signExtend 16

/-- R10, R113: the 16-bit value of a high and a low byte. -/
def word (hi lo : Byte) : Addr := hi ++ lo

/-- R84: the high byte of a 16-bit value. -/
def hiByte (w : Addr) : Byte := w.extractLsb' 8 8

/-- R84: the low byte of a 16-bit value. -/
def loByte (w : Addr) : Byte := w.extractLsb' 0 8

/-- R111: operand bytes of a mode. -/
def Mode.operandBytes : Mode → Nat
  | .imp => 0 | .acc => 0
  | .imm => 1 | .zp => 1 | .zpx => 1 | .zpy => 1 | .indx => 1 | .indy => 1 | .rel => 1
  | .abs => 2 | .absx => 2 | .absy => 2 | .ind => 2

/-- R110, R116: the number of operand bytes of an instruction; the illegal entry has none. -/
def Instr.operandBytes (i : Instr) : Nat :=
  match i.mode with
  | some m => m.operandBytes
  | none => 0

/-- R110: the length of an instruction in bytes. -/
def Instr.length (i : Instr) : Nat := 1 + i.operandBytes

/-- R115: row 0x of the opcode map; a byte the map marks with a dash is the illegal entry (R116). -/
def opcodeRow0 (op b1 b2 : Byte) : Instr :=
  match op.toNat % 16 with
  | 0x0 => .brk
  | 0x1 => .oraIndx b1
  | 0x5 => .oraZp b1
  | 0x6 => .aslZp b1
  | 0x8 => .php
  | 0x9 => .oraImm b1
  | 0xA => .aslAcc
  | 0xD => .oraAbs (word b2 b1)
  | 0xE => .aslAbs (word b2 b1)
  | _ => .illegal op

/-- R115: row 1x of the opcode map; a byte the map marks with a dash is the illegal entry (R116). -/
def opcodeRow1 (op b1 b2 : Byte) : Instr :=
  match op.toNat % 16 with
  | 0x0 => .bpl b1
  | 0x1 => .oraIndy b1
  | 0x5 => .oraZpx b1
  | 0x6 => .aslZpx b1
  | 0x8 => .clc
  | 0x9 => .oraAbsy (word b2 b1)
  | 0xD => .oraAbsx (word b2 b1)
  | 0xE => .aslAbsx (word b2 b1)
  | _ => .illegal op

/-- R115: row 2x of the opcode map; a byte the map marks with a dash is the illegal entry (R116). -/
def opcodeRow2 (op b1 b2 : Byte) : Instr :=
  match op.toNat % 16 with
  | 0x0 => .jsr (word b2 b1)
  | 0x1 => .andIndx b1
  | 0x4 => .bitZp b1
  | 0x5 => .andZp b1
  | 0x6 => .rolZp b1
  | 0x8 => .plp
  | 0x9 => .andImm b1
  | 0xA => .rolAcc
  | 0xC => .bitAbs (word b2 b1)
  | 0xD => .andAbs (word b2 b1)
  | 0xE => .rolAbs (word b2 b1)
  | _ => .illegal op

/-- R115: row 3x of the opcode map; a byte the map marks with a dash is the illegal entry (R116). -/
def opcodeRow3 (op b1 b2 : Byte) : Instr :=
  match op.toNat % 16 with
  | 0x0 => .bmi b1
  | 0x1 => .andIndy b1
  | 0x5 => .andZpx b1
  | 0x6 => .rolZpx b1
  | 0x8 => .sec
  | 0x9 => .andAbsy (word b2 b1)
  | 0xD => .andAbsx (word b2 b1)
  | 0xE => .rolAbsx (word b2 b1)
  | _ => .illegal op

/-- R115: row 4x of the opcode map; a byte the map marks with a dash is the illegal entry (R116). -/
def opcodeRow4 (op b1 b2 : Byte) : Instr :=
  match op.toNat % 16 with
  | 0x0 => .rti
  | 0x1 => .eorIndx b1
  | 0x5 => .eorZp b1
  | 0x6 => .lsrZp b1
  | 0x8 => .pha
  | 0x9 => .eorImm b1
  | 0xA => .lsrAcc
  | 0xC => .jmpAbs (word b2 b1)
  | 0xD => .eorAbs (word b2 b1)
  | 0xE => .lsrAbs (word b2 b1)
  | _ => .illegal op

/-- R115: row 5x of the opcode map; a byte the map marks with a dash is the illegal entry (R116). -/
def opcodeRow5 (op b1 b2 : Byte) : Instr :=
  match op.toNat % 16 with
  | 0x0 => .bvc b1
  | 0x1 => .eorIndy b1
  | 0x5 => .eorZpx b1
  | 0x6 => .lsrZpx b1
  | 0x8 => .cli
  | 0x9 => .eorAbsy (word b2 b1)
  | 0xD => .eorAbsx (word b2 b1)
  | 0xE => .lsrAbsx (word b2 b1)
  | _ => .illegal op

/-- R115: row 6x of the opcode map; a byte the map marks with a dash is the illegal entry (R116). -/
def opcodeRow6 (op b1 b2 : Byte) : Instr :=
  match op.toNat % 16 with
  | 0x0 => .rts
  | 0x1 => .adcIndx b1
  | 0x5 => .adcZp b1
  | 0x6 => .rorZp b1
  | 0x8 => .pla
  | 0x9 => .adcImm b1
  | 0xA => .rorAcc
  | 0xC => .jmpInd (word b2 b1)
  | 0xD => .adcAbs (word b2 b1)
  | 0xE => .rorAbs (word b2 b1)
  | _ => .illegal op

/-- R115: row 7x of the opcode map; a byte the map marks with a dash is the illegal entry (R116). -/
def opcodeRow7 (op b1 b2 : Byte) : Instr :=
  match op.toNat % 16 with
  | 0x0 => .bvs b1
  | 0x1 => .adcIndy b1
  | 0x5 => .adcZpx b1
  | 0x6 => .rorZpx b1
  | 0x8 => .sei
  | 0x9 => .adcAbsy (word b2 b1)
  | 0xD => .adcAbsx (word b2 b1)
  | 0xE => .rorAbsx (word b2 b1)
  | _ => .illegal op

/-- R115: row 8x of the opcode map; a byte the map marks with a dash is the illegal entry (R116). -/
def opcodeRow8 (op b1 b2 : Byte) : Instr :=
  match op.toNat % 16 with
  | 0x1 => .staIndx b1
  | 0x4 => .styZp b1
  | 0x5 => .staZp b1
  | 0x6 => .stxZp b1
  | 0x8 => .dey
  | 0xA => .txa
  | 0xC => .styAbs (word b2 b1)
  | 0xD => .staAbs (word b2 b1)
  | 0xE => .stxAbs (word b2 b1)
  | _ => .illegal op

/-- R115: row 9x of the opcode map; a byte the map marks with a dash is the illegal entry (R116). -/
def opcodeRow9 (op b1 b2 : Byte) : Instr :=
  match op.toNat % 16 with
  | 0x0 => .bcc b1
  | 0x1 => .staIndy b1
  | 0x4 => .styZpx b1
  | 0x5 => .staZpx b1
  | 0x6 => .stxZpy b1
  | 0x8 => .tya
  | 0x9 => .staAbsy (word b2 b1)
  | 0xA => .txs
  | 0xD => .staAbsx (word b2 b1)
  | _ => .illegal op

/-- R115: row Ax of the opcode map; a byte the map marks with a dash is the illegal entry (R116). -/
def opcodeRowA (op b1 b2 : Byte) : Instr :=
  match op.toNat % 16 with
  | 0x0 => .ldyImm b1
  | 0x1 => .ldaIndx b1
  | 0x2 => .ldxImm b1
  | 0x4 => .ldyZp b1
  | 0x5 => .ldaZp b1
  | 0x6 => .ldxZp b1
  | 0x8 => .tay
  | 0x9 => .ldaImm b1
  | 0xA => .tax
  | 0xC => .ldyAbs (word b2 b1)
  | 0xD => .ldaAbs (word b2 b1)
  | 0xE => .ldxAbs (word b2 b1)
  | _ => .illegal op

/-- R115: row Bx of the opcode map; a byte the map marks with a dash is the illegal entry (R116). -/
def opcodeRowB (op b1 b2 : Byte) : Instr :=
  match op.toNat % 16 with
  | 0x0 => .bcs b1
  | 0x1 => .ldaIndy b1
  | 0x4 => .ldyZpx b1
  | 0x5 => .ldaZpx b1
  | 0x6 => .ldxZpy b1
  | 0x8 => .clv
  | 0x9 => .ldaAbsy (word b2 b1)
  | 0xA => .tsx
  | 0xC => .ldyAbsx (word b2 b1)
  | 0xD => .ldaAbsx (word b2 b1)
  | 0xE => .ldxAbsy (word b2 b1)
  | _ => .illegal op

/-- R115: row Cx of the opcode map; a byte the map marks with a dash is the illegal entry (R116). -/
def opcodeRowC (op b1 b2 : Byte) : Instr :=
  match op.toNat % 16 with
  | 0x0 => .cpyImm b1
  | 0x1 => .cmpIndx b1
  | 0x4 => .cpyZp b1
  | 0x5 => .cmpZp b1
  | 0x6 => .decZp b1
  | 0x8 => .iny
  | 0x9 => .cmpImm b1
  | 0xA => .dex
  | 0xC => .cpyAbs (word b2 b1)
  | 0xD => .cmpAbs (word b2 b1)
  | 0xE => .decAbs (word b2 b1)
  | _ => .illegal op

/-- R115: row Dx of the opcode map; a byte the map marks with a dash is the illegal entry (R116). -/
def opcodeRowD (op b1 b2 : Byte) : Instr :=
  match op.toNat % 16 with
  | 0x0 => .bne b1
  | 0x1 => .cmpIndy b1
  | 0x5 => .cmpZpx b1
  | 0x6 => .decZpx b1
  | 0x8 => .cld
  | 0x9 => .cmpAbsy (word b2 b1)
  | 0xD => .cmpAbsx (word b2 b1)
  | 0xE => .decAbsx (word b2 b1)
  | _ => .illegal op

/-- R115: row Ex of the opcode map; a byte the map marks with a dash is the illegal entry (R116). -/
def opcodeRowE (op b1 b2 : Byte) : Instr :=
  match op.toNat % 16 with
  | 0x0 => .cpxImm b1
  | 0x1 => .sbcIndx b1
  | 0x4 => .cpxZp b1
  | 0x5 => .sbcZp b1
  | 0x6 => .incZp b1
  | 0x8 => .inx
  | 0x9 => .sbcImm b1
  | 0xA => .nop
  | 0xC => .cpxAbs (word b2 b1)
  | 0xD => .sbcAbs (word b2 b1)
  | 0xE => .incAbs (word b2 b1)
  | _ => .illegal op

/-- R115: row Fx of the opcode map; a byte the map marks with a dash is the illegal entry (R116). -/
def opcodeRowF (op b1 b2 : Byte) : Instr :=
  match op.toNat % 16 with
  | 0x0 => .beq b1
  | 0x1 => .sbcIndy b1
  | 0x5 => .sbcZpx b1
  | 0x6 => .incZpx b1
  | 0x8 => .sed
  | 0x9 => .sbcAbsy (word b2 b1)
  | 0xD => .sbcAbsx (word b2 b1)
  | 0xE => .incAbsx (word b2 b1)
  | _ => .illegal op

/-- R114, R115: the instruction an opcode byte selects, with its operand bytes (a byte the mode does not use is ignored).
It is total: each of the 256 bytes has an entry. -/
def instrOf (op b1 b2 : Byte) : Instr :=
  match op.toNat / 16 with
  | 0x0 => opcodeRow0 op b1 b2
  | 0x1 => opcodeRow1 op b1 b2
  | 0x2 => opcodeRow2 op b1 b2
  | 0x3 => opcodeRow3 op b1 b2
  | 0x4 => opcodeRow4 op b1 b2
  | 0x5 => opcodeRow5 op b1 b2
  | 0x6 => opcodeRow6 op b1 b2
  | 0x7 => opcodeRow7 op b1 b2
  | 0x8 => opcodeRow8 op b1 b2
  | 0x9 => opcodeRow9 op b1 b2
  | 0xA => opcodeRowA op b1 b2
  | 0xB => opcodeRowB op b1 b2
  | 0xC => opcodeRowC op b1 b2
  | 0xD => opcodeRowD op b1 b2
  | 0xE => opcodeRowE op b1 b2
  | _ => opcodeRowF op b1 b2

/-- R119: how many operand bytes follow an opcode byte, from that byte alone. -/
def operandCount (op : Byte) : Nat := (instrOf op 0 0).operandBytes

/-- Why bytes give no instruction: there are too few of them. Every opcode byte has an entry (R114), so nothing else
can be wrong with them. -/
inductive DecodeError where
  /-- No opcode byte. -/
  | noOpcode
  /-- The operand bytes of this opcode are missing. -/
  | missingOperand (op : Byte)
deriving DecidableEq, Repr

/-- R110, R112: the instruction at the head of a list of bytes, and the bytes after it. -/
def decode : List Byte → Except DecodeError (Instr × List Byte)
  | [] => .error .noOpcode
  | op :: rest =>
    match operandCount op, rest with
    | 0, _ => .ok (instrOf op 0 0, rest)
    | 1, b1 :: tail => .ok (instrOf op b1 0, tail)
    | 2, b1 :: b2 :: tail => .ok (instrOf op b1 b2, tail)
    | _, _ => .error (.missingOperand op)

/-- The decoder on an instruction given as a number, bit 0 the least significant bit of the first byte; the bits above
nbits are zero. The longest instruction has three bytes (R110). -/
def decodeTableWord (nbits w : Nat) : Option Instr :=
  let bits := w % 2 ^ nbits
  match decode [BitVec.ofNat 8 bits, BitVec.ofNat 8 (bits / 0x100), BitVec.ofNat 8 (bits / 0x10000)] with
  | .ok (i, _) => some i
  | .error _ => none

/-- R112: the bytes of an instruction, opcode first, low operand byte before high. -/
def encode : Instr → List Byte
  | .ldaImm v => [0xA9, v]
  | .ldaZp z => [0xA5, z]
  | .ldaZpx z => [0xB5, z]
  | .ldaAbs w => [0xAD, loByte w, hiByte w]
  | .ldaAbsx w => [0xBD, loByte w, hiByte w]
  | .ldaAbsy w => [0xB9, loByte w, hiByte w]
  | .ldaIndx z => [0xA1, z]
  | .ldaIndy z => [0xB1, z]
  | .ldxImm v => [0xA2, v]
  | .ldxZp z => [0xA6, z]
  | .ldxZpy z => [0xB6, z]
  | .ldxAbs w => [0xAE, loByte w, hiByte w]
  | .ldxAbsy w => [0xBE, loByte w, hiByte w]
  | .ldyImm v => [0xA0, v]
  | .ldyZp z => [0xA4, z]
  | .ldyZpx z => [0xB4, z]
  | .ldyAbs w => [0xAC, loByte w, hiByte w]
  | .ldyAbsx w => [0xBC, loByte w, hiByte w]
  | .staZp z => [0x85, z]
  | .staZpx z => [0x95, z]
  | .staAbs w => [0x8D, loByte w, hiByte w]
  | .staAbsx w => [0x9D, loByte w, hiByte w]
  | .staAbsy w => [0x99, loByte w, hiByte w]
  | .staIndx z => [0x81, z]
  | .staIndy z => [0x91, z]
  | .stxZp z => [0x86, z]
  | .stxZpy z => [0x96, z]
  | .stxAbs w => [0x8E, loByte w, hiByte w]
  | .styZp z => [0x84, z]
  | .styZpx z => [0x94, z]
  | .styAbs w => [0x8C, loByte w, hiByte w]
  | .tax => [0xAA]
  | .tay => [0xA8]
  | .txa => [0x8A]
  | .tya => [0x98]
  | .tsx => [0xBA]
  | .txs => [0x9A]
  | .adcImm v => [0x69, v]
  | .adcZp z => [0x65, z]
  | .adcZpx z => [0x75, z]
  | .adcAbs w => [0x6D, loByte w, hiByte w]
  | .adcAbsx w => [0x7D, loByte w, hiByte w]
  | .adcAbsy w => [0x79, loByte w, hiByte w]
  | .adcIndx z => [0x61, z]
  | .adcIndy z => [0x71, z]
  | .sbcImm v => [0xE9, v]
  | .sbcZp z => [0xE5, z]
  | .sbcZpx z => [0xF5, z]
  | .sbcAbs w => [0xED, loByte w, hiByte w]
  | .sbcAbsx w => [0xFD, loByte w, hiByte w]
  | .sbcAbsy w => [0xF9, loByte w, hiByte w]
  | .sbcIndx z => [0xE1, z]
  | .sbcIndy z => [0xF1, z]
  | .andImm v => [0x29, v]
  | .andZp z => [0x25, z]
  | .andZpx z => [0x35, z]
  | .andAbs w => [0x2D, loByte w, hiByte w]
  | .andAbsx w => [0x3D, loByte w, hiByte w]
  | .andAbsy w => [0x39, loByte w, hiByte w]
  | .andIndx z => [0x21, z]
  | .andIndy z => [0x31, z]
  | .oraImm v => [0x09, v]
  | .oraZp z => [0x05, z]
  | .oraZpx z => [0x15, z]
  | .oraAbs w => [0x0D, loByte w, hiByte w]
  | .oraAbsx w => [0x1D, loByte w, hiByte w]
  | .oraAbsy w => [0x19, loByte w, hiByte w]
  | .oraIndx z => [0x01, z]
  | .oraIndy z => [0x11, z]
  | .eorImm v => [0x49, v]
  | .eorZp z => [0x45, z]
  | .eorZpx z => [0x55, z]
  | .eorAbs w => [0x4D, loByte w, hiByte w]
  | .eorAbsx w => [0x5D, loByte w, hiByte w]
  | .eorAbsy w => [0x59, loByte w, hiByte w]
  | .eorIndx z => [0x41, z]
  | .eorIndy z => [0x51, z]
  | .bitZp z => [0x24, z]
  | .bitAbs w => [0x2C, loByte w, hiByte w]
  | .cmpImm v => [0xC9, v]
  | .cmpZp z => [0xC5, z]
  | .cmpZpx z => [0xD5, z]
  | .cmpAbs w => [0xCD, loByte w, hiByte w]
  | .cmpAbsx w => [0xDD, loByte w, hiByte w]
  | .cmpAbsy w => [0xD9, loByte w, hiByte w]
  | .cmpIndx z => [0xC1, z]
  | .cmpIndy z => [0xD1, z]
  | .cpxImm v => [0xE0, v]
  | .cpxZp z => [0xE4, z]
  | .cpxAbs w => [0xEC, loByte w, hiByte w]
  | .cpyImm v => [0xC0, v]
  | .cpyZp z => [0xC4, z]
  | .cpyAbs w => [0xCC, loByte w, hiByte w]
  | .incZp z => [0xE6, z]
  | .incZpx z => [0xF6, z]
  | .incAbs w => [0xEE, loByte w, hiByte w]
  | .incAbsx w => [0xFE, loByte w, hiByte w]
  | .decZp z => [0xC6, z]
  | .decZpx z => [0xD6, z]
  | .decAbs w => [0xCE, loByte w, hiByte w]
  | .decAbsx w => [0xDE, loByte w, hiByte w]
  | .inx => [0xE8]
  | .iny => [0xC8]
  | .dex => [0xCA]
  | .dey => [0x88]
  | .aslAcc => [0x0A]
  | .aslZp z => [0x06, z]
  | .aslZpx z => [0x16, z]
  | .aslAbs w => [0x0E, loByte w, hiByte w]
  | .aslAbsx w => [0x1E, loByte w, hiByte w]
  | .lsrAcc => [0x4A]
  | .lsrZp z => [0x46, z]
  | .lsrZpx z => [0x56, z]
  | .lsrAbs w => [0x4E, loByte w, hiByte w]
  | .lsrAbsx w => [0x5E, loByte w, hiByte w]
  | .rolAcc => [0x2A]
  | .rolZp z => [0x26, z]
  | .rolZpx z => [0x36, z]
  | .rolAbs w => [0x2E, loByte w, hiByte w]
  | .rolAbsx w => [0x3E, loByte w, hiByte w]
  | .rorAcc => [0x6A]
  | .rorZp z => [0x66, z]
  | .rorZpx z => [0x76, z]
  | .rorAbs w => [0x6E, loByte w, hiByte w]
  | .rorAbsx w => [0x7E, loByte w, hiByte w]
  | .pha => [0x48]
  | .php => [0x08]
  | .pla => [0x68]
  | .plp => [0x28]
  | .jmpAbs w => [0x4C, loByte w, hiByte w]
  | .jmpInd w => [0x6C, loByte w, hiByte w]
  | .jsr w => [0x20, loByte w, hiByte w]
  | .rts => [0x60]
  | .bcc r => [0x90, r]
  | .bcs r => [0xB0, r]
  | .beq r => [0xF0, r]
  | .bne r => [0xD0, r]
  | .bmi r => [0x30, r]
  | .bpl r => [0x10, r]
  | .bvc r => [0x50, r]
  | .bvs r => [0x70, r]
  | .clc => [0x18]
  | .sec => [0x38]
  | .cli => [0x58]
  | .sei => [0x78]
  | .clv => [0xB8]
  | .cld => [0xD8]
  | .sed => [0xF8]
  | .nop => [0xEA]
  | .brk => [0x00]
  | .rti => [0x40]
  | .illegal op => [op]

/-- R122: the operand of an instruction of class read, with its mode (R145). -/
def Instr.source : Instr → Option Source
  | .ldaImm v => some (.imm v)
  | .ldaZp z => some (.mem (.zp z))
  | .ldaZpx z => some (.mem (.zpx z))
  | .ldaAbs w => some (.mem (.abs w))
  | .ldaAbsx w => some (.mem (.absx w))
  | .ldaAbsy w => some (.mem (.absy w))
  | .ldaIndx z => some (.mem (.indx z))
  | .ldaIndy z => some (.mem (.indy z))
  | .ldxImm v => some (.imm v)
  | .ldxZp z => some (.mem (.zp z))
  | .ldxZpy z => some (.mem (.zpy z))
  | .ldxAbs w => some (.mem (.abs w))
  | .ldxAbsy w => some (.mem (.absy w))
  | .ldyImm v => some (.imm v)
  | .ldyZp z => some (.mem (.zp z))
  | .ldyZpx z => some (.mem (.zpx z))
  | .ldyAbs w => some (.mem (.abs w))
  | .ldyAbsx w => some (.mem (.absx w))
  | .staZp _ => none
  | .staZpx _ => none
  | .staAbs _ => none
  | .staAbsx _ => none
  | .staAbsy _ => none
  | .staIndx _ => none
  | .staIndy _ => none
  | .stxZp _ => none
  | .stxZpy _ => none
  | .stxAbs _ => none
  | .styZp _ => none
  | .styZpx _ => none
  | .styAbs _ => none
  | .tax => none
  | .tay => none
  | .txa => none
  | .tya => none
  | .tsx => none
  | .txs => none
  | .adcImm v => some (.imm v)
  | .adcZp z => some (.mem (.zp z))
  | .adcZpx z => some (.mem (.zpx z))
  | .adcAbs w => some (.mem (.abs w))
  | .adcAbsx w => some (.mem (.absx w))
  | .adcAbsy w => some (.mem (.absy w))
  | .adcIndx z => some (.mem (.indx z))
  | .adcIndy z => some (.mem (.indy z))
  | .sbcImm v => some (.imm v)
  | .sbcZp z => some (.mem (.zp z))
  | .sbcZpx z => some (.mem (.zpx z))
  | .sbcAbs w => some (.mem (.abs w))
  | .sbcAbsx w => some (.mem (.absx w))
  | .sbcAbsy w => some (.mem (.absy w))
  | .sbcIndx z => some (.mem (.indx z))
  | .sbcIndy z => some (.mem (.indy z))
  | .andImm v => some (.imm v)
  | .andZp z => some (.mem (.zp z))
  | .andZpx z => some (.mem (.zpx z))
  | .andAbs w => some (.mem (.abs w))
  | .andAbsx w => some (.mem (.absx w))
  | .andAbsy w => some (.mem (.absy w))
  | .andIndx z => some (.mem (.indx z))
  | .andIndy z => some (.mem (.indy z))
  | .oraImm v => some (.imm v)
  | .oraZp z => some (.mem (.zp z))
  | .oraZpx z => some (.mem (.zpx z))
  | .oraAbs w => some (.mem (.abs w))
  | .oraAbsx w => some (.mem (.absx w))
  | .oraAbsy w => some (.mem (.absy w))
  | .oraIndx z => some (.mem (.indx z))
  | .oraIndy z => some (.mem (.indy z))
  | .eorImm v => some (.imm v)
  | .eorZp z => some (.mem (.zp z))
  | .eorZpx z => some (.mem (.zpx z))
  | .eorAbs w => some (.mem (.abs w))
  | .eorAbsx w => some (.mem (.absx w))
  | .eorAbsy w => some (.mem (.absy w))
  | .eorIndx z => some (.mem (.indx z))
  | .eorIndy z => some (.mem (.indy z))
  | .bitZp z => some (.mem (.zp z))
  | .bitAbs w => some (.mem (.abs w))
  | .cmpImm v => some (.imm v)
  | .cmpZp z => some (.mem (.zp z))
  | .cmpZpx z => some (.mem (.zpx z))
  | .cmpAbs w => some (.mem (.abs w))
  | .cmpAbsx w => some (.mem (.absx w))
  | .cmpAbsy w => some (.mem (.absy w))
  | .cmpIndx z => some (.mem (.indx z))
  | .cmpIndy z => some (.mem (.indy z))
  | .cpxImm v => some (.imm v)
  | .cpxZp z => some (.mem (.zp z))
  | .cpxAbs w => some (.mem (.abs w))
  | .cpyImm v => some (.imm v)
  | .cpyZp z => some (.mem (.zp z))
  | .cpyAbs w => some (.mem (.abs w))
  | .incZp _ => none
  | .incZpx _ => none
  | .incAbs _ => none
  | .incAbsx _ => none
  | .decZp _ => none
  | .decZpx _ => none
  | .decAbs _ => none
  | .decAbsx _ => none
  | .inx => none
  | .iny => none
  | .dex => none
  | .dey => none
  | .aslAcc => none
  | .aslZp _ => none
  | .aslZpx _ => none
  | .aslAbs _ => none
  | .aslAbsx _ => none
  | .lsrAcc => none
  | .lsrZp _ => none
  | .lsrZpx _ => none
  | .lsrAbs _ => none
  | .lsrAbsx _ => none
  | .rolAcc => none
  | .rolZp _ => none
  | .rolZpx _ => none
  | .rolAbs _ => none
  | .rolAbsx _ => none
  | .rorAcc => none
  | .rorZp _ => none
  | .rorZpx _ => none
  | .rorAbs _ => none
  | .rorAbsx _ => none
  | .pha => none
  | .php => none
  | .pla => none
  | .plp => none
  | .jmpAbs _ => none
  | .jmpInd _ => none
  | .jsr _ => none
  | .rts => none
  | .bcc _ => none
  | .bcs _ => none
  | .beq _ => none
  | .bne _ => none
  | .bmi _ => none
  | .bpl _ => none
  | .bvc _ => none
  | .bvs _ => none
  | .clc => none
  | .sec => none
  | .cli => none
  | .sei => none
  | .clv => none
  | .cld => none
  | .sed => none
  | .nop => none
  | .brk => none
  | .rti => none
  | .illegal _ => none

/-- R122: the operand of an instruction of class write (STA, STX, STY). -/
def Instr.dest : Instr → Option Addressed
  | .ldaImm _ => none
  | .ldaZp _ => none
  | .ldaZpx _ => none
  | .ldaAbs _ => none
  | .ldaAbsx _ => none
  | .ldaAbsy _ => none
  | .ldaIndx _ => none
  | .ldaIndy _ => none
  | .ldxImm _ => none
  | .ldxZp _ => none
  | .ldxZpy _ => none
  | .ldxAbs _ => none
  | .ldxAbsy _ => none
  | .ldyImm _ => none
  | .ldyZp _ => none
  | .ldyZpx _ => none
  | .ldyAbs _ => none
  | .ldyAbsx _ => none
  | .staZp z => some (.zp z)
  | .staZpx z => some (.zpx z)
  | .staAbs w => some (.abs w)
  | .staAbsx w => some (.absx w)
  | .staAbsy w => some (.absy w)
  | .staIndx z => some (.indx z)
  | .staIndy z => some (.indy z)
  | .stxZp z => some (.zp z)
  | .stxZpy z => some (.zpy z)
  | .stxAbs w => some (.abs w)
  | .styZp z => some (.zp z)
  | .styZpx z => some (.zpx z)
  | .styAbs w => some (.abs w)
  | .tax => none
  | .tay => none
  | .txa => none
  | .tya => none
  | .tsx => none
  | .txs => none
  | .adcImm _ => none
  | .adcZp _ => none
  | .adcZpx _ => none
  | .adcAbs _ => none
  | .adcAbsx _ => none
  | .adcAbsy _ => none
  | .adcIndx _ => none
  | .adcIndy _ => none
  | .sbcImm _ => none
  | .sbcZp _ => none
  | .sbcZpx _ => none
  | .sbcAbs _ => none
  | .sbcAbsx _ => none
  | .sbcAbsy _ => none
  | .sbcIndx _ => none
  | .sbcIndy _ => none
  | .andImm _ => none
  | .andZp _ => none
  | .andZpx _ => none
  | .andAbs _ => none
  | .andAbsx _ => none
  | .andAbsy _ => none
  | .andIndx _ => none
  | .andIndy _ => none
  | .oraImm _ => none
  | .oraZp _ => none
  | .oraZpx _ => none
  | .oraAbs _ => none
  | .oraAbsx _ => none
  | .oraAbsy _ => none
  | .oraIndx _ => none
  | .oraIndy _ => none
  | .eorImm _ => none
  | .eorZp _ => none
  | .eorZpx _ => none
  | .eorAbs _ => none
  | .eorAbsx _ => none
  | .eorAbsy _ => none
  | .eorIndx _ => none
  | .eorIndy _ => none
  | .bitZp _ => none
  | .bitAbs _ => none
  | .cmpImm _ => none
  | .cmpZp _ => none
  | .cmpZpx _ => none
  | .cmpAbs _ => none
  | .cmpAbsx _ => none
  | .cmpAbsy _ => none
  | .cmpIndx _ => none
  | .cmpIndy _ => none
  | .cpxImm _ => none
  | .cpxZp _ => none
  | .cpxAbs _ => none
  | .cpyImm _ => none
  | .cpyZp _ => none
  | .cpyAbs _ => none
  | .incZp _ => none
  | .incZpx _ => none
  | .incAbs _ => none
  | .incAbsx _ => none
  | .decZp _ => none
  | .decZpx _ => none
  | .decAbs _ => none
  | .decAbsx _ => none
  | .inx => none
  | .iny => none
  | .dex => none
  | .dey => none
  | .aslAcc => none
  | .aslZp _ => none
  | .aslZpx _ => none
  | .aslAbs _ => none
  | .aslAbsx _ => none
  | .lsrAcc => none
  | .lsrZp _ => none
  | .lsrZpx _ => none
  | .lsrAbs _ => none
  | .lsrAbsx _ => none
  | .rolAcc => none
  | .rolZp _ => none
  | .rolZpx _ => none
  | .rolAbs _ => none
  | .rolAbsx _ => none
  | .rorAcc => none
  | .rorZp _ => none
  | .rorZpx _ => none
  | .rorAbs _ => none
  | .rorAbsx _ => none
  | .pha => none
  | .php => none
  | .pla => none
  | .plp => none
  | .jmpAbs _ => none
  | .jmpInd _ => none
  | .jsr _ => none
  | .rts => none
  | .bcc _ => none
  | .bcs _ => none
  | .beq _ => none
  | .bne _ => none
  | .bmi _ => none
  | .bpl _ => none
  | .bvc _ => none
  | .bvs _ => none
  | .clc => none
  | .sec => none
  | .cli => none
  | .sei => none
  | .clv => none
  | .cld => none
  | .sed => none
  | .nop => none
  | .brk => none
  | .rti => none
  | .illegal _ => none

/-- R122, 43_shift_rotate.md: the operand a read-modify-write instruction reads and writes back, the accumulator for the
ACC form of a shift. -/
def Instr.target : Instr → Option Target
  | .ldaImm _ => none
  | .ldaZp _ => none
  | .ldaZpx _ => none
  | .ldaAbs _ => none
  | .ldaAbsx _ => none
  | .ldaAbsy _ => none
  | .ldaIndx _ => none
  | .ldaIndy _ => none
  | .ldxImm _ => none
  | .ldxZp _ => none
  | .ldxZpy _ => none
  | .ldxAbs _ => none
  | .ldxAbsy _ => none
  | .ldyImm _ => none
  | .ldyZp _ => none
  | .ldyZpx _ => none
  | .ldyAbs _ => none
  | .ldyAbsx _ => none
  | .staZp _ => none
  | .staZpx _ => none
  | .staAbs _ => none
  | .staAbsx _ => none
  | .staAbsy _ => none
  | .staIndx _ => none
  | .staIndy _ => none
  | .stxZp _ => none
  | .stxZpy _ => none
  | .stxAbs _ => none
  | .styZp _ => none
  | .styZpx _ => none
  | .styAbs _ => none
  | .tax => none
  | .tay => none
  | .txa => none
  | .tya => none
  | .tsx => none
  | .txs => none
  | .adcImm _ => none
  | .adcZp _ => none
  | .adcZpx _ => none
  | .adcAbs _ => none
  | .adcAbsx _ => none
  | .adcAbsy _ => none
  | .adcIndx _ => none
  | .adcIndy _ => none
  | .sbcImm _ => none
  | .sbcZp _ => none
  | .sbcZpx _ => none
  | .sbcAbs _ => none
  | .sbcAbsx _ => none
  | .sbcAbsy _ => none
  | .sbcIndx _ => none
  | .sbcIndy _ => none
  | .andImm _ => none
  | .andZp _ => none
  | .andZpx _ => none
  | .andAbs _ => none
  | .andAbsx _ => none
  | .andAbsy _ => none
  | .andIndx _ => none
  | .andIndy _ => none
  | .oraImm _ => none
  | .oraZp _ => none
  | .oraZpx _ => none
  | .oraAbs _ => none
  | .oraAbsx _ => none
  | .oraAbsy _ => none
  | .oraIndx _ => none
  | .oraIndy _ => none
  | .eorImm _ => none
  | .eorZp _ => none
  | .eorZpx _ => none
  | .eorAbs _ => none
  | .eorAbsx _ => none
  | .eorAbsy _ => none
  | .eorIndx _ => none
  | .eorIndy _ => none
  | .bitZp _ => none
  | .bitAbs _ => none
  | .cmpImm _ => none
  | .cmpZp _ => none
  | .cmpZpx _ => none
  | .cmpAbs _ => none
  | .cmpAbsx _ => none
  | .cmpAbsy _ => none
  | .cmpIndx _ => none
  | .cmpIndy _ => none
  | .cpxImm _ => none
  | .cpxZp _ => none
  | .cpxAbs _ => none
  | .cpyImm _ => none
  | .cpyZp _ => none
  | .cpyAbs _ => none
  | .incZp z => some (.mem (.zp z))
  | .incZpx z => some (.mem (.zpx z))
  | .incAbs w => some (.mem (.abs w))
  | .incAbsx w => some (.mem (.absx w))
  | .decZp z => some (.mem (.zp z))
  | .decZpx z => some (.mem (.zpx z))
  | .decAbs w => some (.mem (.abs w))
  | .decAbsx w => some (.mem (.absx w))
  | .inx => none
  | .iny => none
  | .dex => none
  | .dey => none
  | .aslAcc => some .acc
  | .aslZp z => some (.mem (.zp z))
  | .aslZpx z => some (.mem (.zpx z))
  | .aslAbs w => some (.mem (.abs w))
  | .aslAbsx w => some (.mem (.absx w))
  | .lsrAcc => some .acc
  | .lsrZp z => some (.mem (.zp z))
  | .lsrZpx z => some (.mem (.zpx z))
  | .lsrAbs w => some (.mem (.abs w))
  | .lsrAbsx w => some (.mem (.absx w))
  | .rolAcc => some .acc
  | .rolZp z => some (.mem (.zp z))
  | .rolZpx z => some (.mem (.zpx z))
  | .rolAbs w => some (.mem (.abs w))
  | .rolAbsx w => some (.mem (.absx w))
  | .rorAcc => some .acc
  | .rorZp z => some (.mem (.zp z))
  | .rorZpx z => some (.mem (.zpx z))
  | .rorAbs w => some (.mem (.abs w))
  | .rorAbsx w => some (.mem (.absx w))
  | .pha => none
  | .php => none
  | .pla => none
  | .plp => none
  | .jmpAbs _ => none
  | .jmpInd _ => none
  | .jsr _ => none
  | .rts => none
  | .bcc _ => none
  | .bcs _ => none
  | .beq _ => none
  | .bne _ => none
  | .bmi _ => none
  | .bpl _ => none
  | .bvc _ => none
  | .bvs _ => none
  | .clc => none
  | .sec => none
  | .cli => none
  | .sei => none
  | .clv => none
  | .cld => none
  | .sed => none
  | .nop => none
  | .brk => none
  | .rti => none
  | .illegal _ => none

/-- R122: the access class of a documented instruction; the ACC form of a shift is register-only, the illegal entry has none. -/
def Instr.accessClass (i : Instr) : Option AccessClass :=
  match i.mnemonic with
  | .LDA | .LDX | .LDY | .ADC | .SBC | .AND | .ORA | .EOR | .BIT | .CMP | .CPX | .CPY => some .read
  | .STA | .STX | .STY => some .write
  | .ASL | .LSR | .ROL | .ROR => if i.mode = some .acc then some .registerOnly else some .rmw
  | .INC | .DEC => some .rmw
  | .TAX | .TAY | .TXA | .TYA | .TSX | .TXS | .INX | .INY | .DEX | .DEY => some .registerOnly
  | .CLC | .SEC | .CLI | .SEI | .CLV | .CLD | .SED | .NOP => some .registerOnly
  | .PHA | .PHP | .PLA | .PLP => some .stack
  | .JMP | .JSR | .RTS | .RTI | .BRK => some .control
  | .BCC | .BCS | .BEQ | .BNE | .BMI | .BPL | .BVC | .BVS => some .control
  | .ILLEGAL => none

end Sys2Proof
end

