-- ==== Sys2Proof/Machine/State.lean ====
section
/-! DEFINITION. The state of the machine (10_state.md R30, R53): the processor's registers, the bytes behind the memory
bus, what was chosen when the cartridge was loaded, and what the last step reported. Plain data throughout. -/

namespace Sys2Proof.Machine

/-- Memory as (address, byte) pairs in one canonical form (Memory.wf). -/
abbrev Memory := List Host.Cell

/-- The canonical form: addresses strictly rising, and no entry equal to what an unlisted address reads as. -/
abbrev Memory.wf (m : Memory) : Prop :=
  m.Pairwise (fun c d => c.1 < d.1) ∧ ∀ c ∈ m, c.2 ≠ Config.unlistedByte

/-- R79, D25: the two PRG buffer lengths NROM takes. -/
inductive PrgSize where
  | k16
  | k32
deriving DecidableEq, Repr

/-- R79: PRG_LEN. -/
def PrgSize.bytes : PrgSize → Nat
  | .k16 => 0x4000
  | .k32 => 0x8000

/-- R81: how a MAPPER_TRANSLATE function computes its number, as plain data, so that a platform can supply one. Every
term has a value (MapperTerm.eval), so a function written as a term is total. -/
inductive MapperTerm where
  | lit (n : Nat)
  /-- The mapper's state. -/
  | state
  /-- The address accessed. -/
  | address
  /-- The byte written; 0 in a read. -/
  | value
  /-- The length of the PRG buffer. -/
  | prgLength
  /-- The byte at an offset into the PRG buffer. -/
  | prgByte (offset : MapperTerm)
  | add (l r : MapperTerm)
  | sub (l r : MapperTerm)
  | mul (l r : MapperTerm)
  | div (l r : MapperTerm)
  | mod (l r : MapperTerm)
  /-- The third term where the first is below the second, else the fourth. -/
  | ifLt (l r below other : MapperTerm)
  /-- A function that is not written out: a free value (log 10). -/
  | free (tag : Nat)
deriving DecidableEq, Repr

/-- R8, R81: the parameter MAPPER_TRANSLATE: a read function from the mapper's state and an address to a byte, and a write
function from the mapper's state, an address and a byte to a new state of the mapper. -/
structure MapperTranslate where
  /-- The byte read, modulo 0x100. -/
  read : MapperTerm
  /-- The mapper's next state. -/
  write : MapperTerm
  /-- The mapper's state when it is loaded. -/
  initial : Nat
  /-- The vector bytes (0 for 0xFFFC to 3 for 0xFFFF) this mapper leaves unmapped (R342, R278); usually none. -/
  vectorGaps : List (Fin 4)
deriving DecidableEq, Repr

/-- R8, R77, R81: the mapper chosen at load time. -/
inductive Mapper where
  /-- Mapper id 0, NROM, with the length of its PRG buffer (R79). -/
  | nrom (size : PrgSize)
  /-- Another mapper id, with the length of its PRG buffer and the MAPPER_TRANSLATE given for it (R81). -/
  | translated (id : Byte) (prgLength : Nat) (translate : MapperTranslate)
deriving DecidableEq, Repr

/-- R83: what stands at 0x2000-0x7FFF. -/
inductive ExtRegion where
  /-- The default: every access raises InvalidBusAddress. -/
  | empty
  /-- A supplied region, whose answers are free values (log 9). -/
  | device
deriving DecidableEq, Repr

/-- R300: the warnings a step can report. -/
inductive Warning where
  /-- A push when S = 0x00 (R305). -/
  | stackOverflow
  /-- A pop when S = 0xFF (R306). -/
  | stackUnderflow
deriving DecidableEq, Repr

/-- R304: the kind of an access. -/
inductive AccessKind where
  | read
  | write
deriving DecidableEq, Repr

/-- R303: what IllegalOpcode records: the opcode byte and the address it was fetched from. -/
structure IllegalOpcode where
  opcode : Byte
  address : Addr
deriving DecidableEq, Repr

/-- R30: the processor and its memory; the load-time configuration prg, mapper and ext, which R52 makes parameters of the
step (stepWith takes them so; log 1 says why they stand here too); the states of the units outside the block; and the
outputs of the step (R302, log 6). -/
structure State where
  /-- A, the accumulator (R31). -/
  a : Byte
  /-- X, an index register (R32). -/
  x : Byte
  /-- Y, an index register (R33). -/
  y : Byte
  /-- P, the status register N V U B D I Z C (R37). -/
  p : Byte
  /-- S, the stack pointer (R35). -/
  sp : Byte
  /-- PC (R36); between steps the address of the next opcode byte. -/
  pc : Addr
  /-- Internal RAM, keys 0 to 0x7FF (R73). -/
  ram : Memory
  /-- The PRG buffer, keys are offsets into it (R79). -/
  prg : Memory
  /-- The mapper chosen at load time (R77). -/
  mapper : Mapper
  /-- The state of a translated mapper (R81), outside the block (R52); 0 under NROM, which has none. -/
  mapperState : Nat
  /-- What stands at 0x2000-0x7FFF (R83). -/
  ext : ExtRegion
  /-- The accesses a supplied region has seen, oldest first: its state (R83). -/
  extLog : List ExtAccess
  /-- The warnings of the step so far, in order (R302). -/
  warnings : List Warning
  /-- The IllegalOpcode error of the last step, if it ended in one (R302, R303). -/
  error : Option IllegalOpcode
deriving DecidableEq, Repr

/-- Why the machine stops. -/
inductive Fault where
  /-- InvalidBusAddress (R76, R304), with the warnings reported before it (R302): raised by the memory bus on an access to
  an address mapped to no region. Safe: the spec leaves the state after it unspecified and allows no further step (D4). -/
  | invalidBusAddress (address : Addr) (kind : AccessKind) (warnings : List Warning)
deriving DecidableEq, Repr

/-- Why an instruction has no meaning. -/
inductive Refusal where
  /-- An instruction exec has no meaning for yet: raised by exec's arm alone, safe. Every arm has its meaning. -/
  | notModelled (mnemonic : String)
deriving DecidableEq, Repr

/-- What a meaning answers. -/
abbrev Result := Host.Outcome State Fault Refusal

/-- R53, R340: the machine right after reset. The registers are the spec's; P is the default of P_RESET (log 4); PC is the
word at the reset vector, 0x0000 in an image with nothing listed (log 3); RAM_INIT is the zero image (log 2); the cartridge
is NROM with 16 KiB and EXT_REGION the default (log 5); nothing is reported (R341, log 6). -/
def State.reset : State where
  a := 0x00
  x := 0x00
  y := 0x00
  p := Config.pResetDefault
  sp := 0xFF
  pc := 0x0000
  ram := []
  prg := []
  mapper := .nrom .k16
  mapperState := 0
  ext := .empty
  extLog := []
  warnings := []
  error := none

end Sys2Proof.Machine
end

