-- ==== Sys2Proof/Machine/Flags.lean ====
section
/-! DEFINITION. The status-flag model (10_state.md R37-R44): the bits of P, and every flag computation, as functions on
bytes. -/

namespace Sys2Proof.Machine

/-- R37: the bits of P. -/
inductive Flag where
  | n | v | u | b | d | i | z | c
deriving DecidableEq, Repr

/-- R37: the mask of a bit of P. -/
def Flag.mask : Flag → Byte
  | .n => 0x80
  | .v => 0x40
  | .u => 0x20
  | .b => 0x10
  | .d => 0x08
  | .i => 0x04
  | .z => 0x02
  | .c => 0x01

/-- R11: one flag of P. -/
def flag (f : Flag) (p : Byte) : Bool := p &&& f.mask != 0

/-- R11: P with one bit written and the others kept. -/
def setFlag (f : Flag) (on : Bool) (p : Byte) : Byte :=
  if on then p ||| f.mask else p &&& ~~~f.mask

/-- R40: SetZN. -/
def setZN (r : Byte) (p : Byte) : Byte :=
  setFlag .n r.msb (setFlag .z (r == 0) p)

/-- R41: the answers of the adder. -/
structure Sum where
  result : Byte
  carry : Bool
  overflow : Bool
deriving DecidableEq, Repr

/-- R41: AddCore. The sum is exact and then narrowed. -/
def addCore (a b : Byte) (c : Bool) : Sum :=
  let sum := a.toNat + b.toNat + c.toNat
  let r := BitVec.ofNat 8 sum
  { result := r
    carry := decide (sum > 0xFF)
    overflow := (a ^^^ r) &&& (b ^^^ r) &&& 0x80 != 0 }

/-- R42: the adder fed with the one's complement of M. -/
def subCore (a m : Byte) (c : Bool) : Sum := addCore a (m ^^^ 0xFF) c

/-- R200, R201: the flags ADC and SBC write. -/
def setSum (r : Sum) (p : Byte) : Byte :=
  setZN r.result (setFlag .v r.overflow (setFlag .c r.carry p))

/-- R43: Compare. -/
def compareFlags (reg m : Byte) (p : Byte) : Byte :=
  setFlag .n (reg - m).msb (setFlag .z (reg == m) (setFlag .c (decide (m.toNat ≤ reg.toNat)) p))

/-- R205: the flags of BIT: Z from A & M, N and V from M itself. -/
def bitTest (a m : Byte) (p : Byte) : Byte :=
  setFlag .v (m.getLsbD 6) (setFlag .n (m.getLsbD 7) (setFlag .z (a &&& m == 0) p))

/-- What a read-modify-write operation makes of a value: the result and the status. -/
structure Modified where
  result : Byte
  status : Byte
deriving DecidableEq, Repr

/-- R230: ASL. -/
def shiftLeft (v p : Byte) : Modified :=
  let r := v <<< 1
  { result := r, status := setZN r (setFlag .c (v.getLsbD 7) p) }

/-- R231: LSR. -/
def shiftRight (v p : Byte) : Modified :=
  let r := v >>> 1
  { result := r, status := setZN r (setFlag .c (v.getLsbD 0) p) }

/-- R232: ROL; the carry before the instruction goes into bit 0. -/
def rotateLeft (v p : Byte) : Modified :=
  let r := (v <<< 1) ||| (if flag .c p then (0x01 : Byte) else 0x00)
  { result := r, status := setZN r (setFlag .c (v.getLsbD 7) p) }

/-- R233: ROR; the carry before the instruction goes into bit 7. -/
def rotateRight (v p : Byte) : Modified :=
  let r := (v >>> 1) ||| (if flag .c p then (0x80 : Byte) else 0x00)
  { result := r, status := setZN r (setFlag .c (v.getLsbD 0) p) }

/-- R209: INC. -/
def increment (v p : Byte) : Modified := { result := v + 1, status := setZN (v + 1) p }

/-- R210: DEC. -/
def decrement (v p : Byte) : Modified := { result := v - 1, status := setZN (v - 1) p }

/-- R39, R241, R278: the copy of P that PHP and BRK push, bits 5 and 4 set. -/
def pushedStatus (p : Byte) : Byte := p ||| 0x30

/-- R39, R243, R279: what a pulled byte makes of P: bits 5 and 4 stay. -/
def pulledStatus (v p : Byte) : Byte := (v &&& 0xCF) ||| (p &&& 0x30)

end Sys2Proof.Machine
end

