-- ==== Sys2Proof/Machine/Ops.lean ====
section
/-! DEFINITION. The named operations over memory, registers, bus and stack (20_memory.md R70-R93, 00_scope.md R12, R13),
fetching an instruction (40_dispatch_addressing.md R140, R141), taking BRK's trap and returning from it (60_exceptions.md
R312, R313). An operation that may raise InvalidBusAddress answers in Except Fault. -/

namespace Sys2Proof.Machine

/-! Memory as canonical data. -/

/-- The byte at a key; an unlisted key reads as Config.unlistedByte. -/
def Memory.read : Memory → Nat → Byte
  | [], _ => Config.unlistedByte
  | c :: rest, k => if c.1 = k then c.2 else Memory.read rest k

/-- Every entry of a key taken out. -/
def Memory.erase (m : Memory) (k : Nat) : Memory := m.filter (fun c => c.1 != k)

/-- A cell put before the first cell of a greater key. -/
def Memory.insert : Memory → Nat → Byte → Memory
  | [], k, v => [(k, v)]
  | c :: rest, k, v => if k < c.1 then (k, v) :: c :: rest else c :: Memory.insert rest k v

/-- One byte written, the canonical form kept. -/
def Memory.write (m : Memory) (k : Nat) (v : Byte) : Memory :=
  if v = Config.unlistedByte then m.erase k else (m.erase k).insert k v

/-! Registers and the step's outputs: one named update per field. -/

def State.setA (s : State) (v : Byte) : State := { s with a := v }
def State.setX (s : State) (v : Byte) : State := { s with x := v }
def State.setY (s : State) (v : Byte) : State := { s with y := v }
def State.setP (s : State) (v : Byte) : State := { s with p := v }
def State.setSp (s : State) (v : Byte) : State := { s with sp := v }
def State.setPc (s : State) (v : Addr) : State := { s with pc := v }
def State.setRam (s : State) (m : Memory) : State := { s with ram := m }
def State.setPrg (s : State) (m : Memory) : State := { s with prg := m }
def State.setMapperState (s : State) (n : Nat) : State := { s with mapperState := n }
def State.setExtLog (s : State) (l : List ExtAccess) : State := { s with extLog := l }
def State.setWarnings (s : State) (l : List Warning) : State := { s with warnings := l }
def State.setError (s : State) (e : Option IllegalOpcode) : State := { s with error := e }

/-- R13, R142: PC moved past n bytes, modulo 0x10000. -/
def State.advance (s : State) (n : Nat) : State := s.setPc (s.pc + BitVec.ofNat 16 n)

/-- R14: a warning appended to the step's list. -/
def State.report (s : State) (w : Warning) : State := s.setWarnings (s.warnings ++ [w])

/-! The memory bus. -/

/-- R72: the regions of the address space. -/
inductive Region where
  /-- Internal RAM, with the index of the RAM byte (R73). -/
  | ram (index : Nat)
  /-- EXT_REGION (R83). -/
  | ext
  /-- The cartridge window (R79-R81). -/
  | cart
deriving DecidableEq, Repr

/-- R72, R73: the region of an address. -/
def region (a : Addr) : Region :=
  if a.toNat < Config.ramTop then .ram (a.toNat % Config.ramBytes)
  else if a.toNat < Config.cartBase then .ext
  else .cart

/-- R79: the PRG offset NROM reads for an address of the cartridge window. -/
def nromOffset (size : PrgSize) (a : Addr) : Nat := (a.toNat - Config.cartBase) % size.bytes

/-- R81: the value of a term, for a PRG buffer and its length, a state of the mapper, an address and a byte. -/
def MapperTerm.eval (prg : Memory) (len st : Nat) (a : Addr) (v : Byte) : MapperTerm → Nat
  | .lit n => n
  | .state => st
  | .address => a.toNat
  | .value => v.toNat
  | .prgLength => len
  | .prgByte offset => (prg.read (offset.eval prg len st a v)).toNat
  | .add l r => l.eval prg len st a v + r.eval prg len st a v
  | .sub l r => l.eval prg len st a v - r.eval prg len st a v
  | .mul l r => l.eval prg len st a v * r.eval prg len st a v
  | .div l r => l.eval prg len st a v / r.eval prg len st a v
  | .mod l r => l.eval prg len st a v % r.eval prg len st a v
  | .ifLt l r below other =>
    if l.eval prg len st a v < r.eval prg len st a v then below.eval prg len st a v else other.eval prg len st a v
  | .free tag => Config.mapperFree tag prg len st a v

/-- R342, R278: whether a MAPPER_TRANSLATE leaves an address unmapped; only a vector byte can be one (log 10). -/
def MapperTranslate.leavesUnmapped (t : MapperTranslate) (a : Addr) : Bool :=
  t.vectorGaps.any fun k => a.toNat == Config.vectorBase + k.val

/-- R81: the byte a MAPPER_TRANSLATE's read function gives. -/
def MapperTranslate.readByte (t : MapperTranslate) (prg : Memory) (len st : Nat) (a : Addr) : Byte :=
  BitVec.ofNat 8 (t.read.eval prg len st a 0x00)

/-- R81: the mapper's state a MAPPER_TRANSLATE's write function gives. -/
def MapperTranslate.writeState (t : MapperTranslate) (prg : Memory) (len st : Nat) (a : Addr) (v : Byte) : Nat :=
  t.write.eval prg len st a v

/-- R79, R81: what the active mapper answers to a read of the cartridge window; none is an unmapped vector byte. -/
def State.cartRead (s : State) (a : Addr) : Option Byte :=
  match s.mapper with
  | .nrom size => some (s.prg.read (nromOffset size a))
  | .translated _ len t => if t.leavesUnmapped a then none else some (t.readByte s.prg len s.mapperState a)

/-- R80, R81: a write of the cartridge window, which cannot fail: NROM discards it, a translated mapper takes its next
state from its write function. -/
def State.cartWrite (s : State) (a : Addr) (v : Byte) : State :=
  match s.mapper with
  | .nrom _ => s
  | .translated _ len t => s.setMapperState (t.writeState s.prg len s.mapperState a v)

/-- R76: the error of a failing access, with the warnings reported before it (R302). -/
def State.invalid (s : State) (a : Addr) (kind : AccessKind) : Fault := .invalidBusAddress a kind s.warnings

/-- MemRead (R12, R72): one bus read. A supplied EXT_REGION device sees it (R83); no other read has a side effect (R88). -/
def busRead (a : Addr) (s : State) : Except Fault (Byte × State) :=
  match region a with
  | .ram k => .ok (s.ram.read k, s)
  | .cart =>
    match s.cartRead a with
    | some v => .ok (v, s)
    | none => .error (s.invalid a .read)
  | .ext =>
    match s.ext with
    | .empty => .error (s.invalid a .read)
    | .device =>
      match Config.extRead s.extLog a with
      | some v => .ok (v, s.setExtLog (s.extLog ++ [.read a]))
      | none => .error (s.invalid a .read)

/-- MemWrite (R12, R72): one bus write. In the cartridge window it cannot fail (R80, R81). -/
def busWrite (a : Addr) (v : Byte) (s : State) : Except Fault State :=
  match region a with
  | .ram k => .ok (s.setRam (s.ram.write k v))
  | .cart => .ok (s.cartWrite a v)
  | .ext =>
    match s.ext with
    | .empty => .error (s.invalid a .write)
    | .device =>
      if Config.extTakes s.extLog a v then .ok (s.setExtLog (s.extLog ++ [.write a v]))
      else .error (s.invalid a .write)

/-- The byte a read of an address gives where the read has no side effect (R88): RAM and the cartridge window. In
EXT_REGION there is no such byte. -/
def State.peek (s : State) (a : Addr) : Option Byte :=
  match region a with
  | .ram k => some (s.ram.read k)
  | .cart => s.cartRead a
  | .ext => none

/-- Two bus reads, low byte first, as one word (R13, R84). -/
def readWord (lo hi : Addr) (s : State) : Except Fault (Addr × State) :=
  match busRead lo s with
  | .error f => .error f
  | .ok (l, s1) =>
    match busRead hi s1 with
    | .error f => .error f
    | .ok (h, s2) => .ok (word h l, s2)

/-- R13: Read16, the high byte at the next address modulo 0x10000. -/
def read16 (a : Addr) (s : State) : Except Fault (Addr × State) := readWord a (a + 1) s

/-- R13, R155: Read16PageWrap, the high byte from the same page as the low byte. -/
def read16PageWrap (a : Addr) (s : State) : Except Fault (Addr × State) :=
  readWord a ((a &&& 0xFF00) ||| ((a + 1) &&& 0x00FF)) s

/-- A byte of the zero page. R74: it is internal RAM, so this bus read cannot fail and has no side effect (log 14). -/
def State.zpRead (s : State) (z : Byte) : Byte := s.ram.read z.toNat

/-- R13: Read16ZP, the high byte wrapping in the zero page (log 14). -/
def State.zpWord (s : State) (z : Byte) : Addr := word (s.zpRead (z + 1)) (s.zpRead z)

/-! The stack engine. R92: the stack page is internal RAM, so no access of it can fail (log 14). -/

/-- R90, R92: the RAM index of the stack byte at a stack pointer. -/
def stackIndex (sp : Byte) : Nat := Config.stackPage + sp.toNat

/-- R90: Push. -/
def push (v : Byte) (s : State) : State :=
  let s1 := if s.sp = 0x00 then s.report .stackOverflow else s
  (s1.setRam (s1.ram.write (stackIndex s1.sp) v)).setSp (s1.sp - 1)

/-- R91: Pop. -/
def pop (s : State) : Byte × State :=
  let s1 := if s.sp = 0xFF then s.report .stackUnderflow else s
  let s2 := s1.setSp (s1.sp + 1)
  (s2.ram.read (stackIndex s2.sp), s2)

/-- R85: a return address pushed, high byte first. -/
def pushWord (w : Addr) (s : State) : State := push (loByte w) (push (hiByte w) s)

/-- R252, R279: a return address popped, low byte first. -/
def popWord (s : State) : Addr × State :=
  let (lo, s1) := pop s
  let (hi, s2) := pop s1
  (word hi lo, s2)

/-- R243, R279: P pulled from the stack, bits 5 and 4 kept. -/
def pullStatus (s : State) : State :=
  let (v, s1) := pop s
  s1.setP (pulledStatus v s1.p)

/-! Trap entry and return. -/

/-- R312, R278: taking the block's one trap, BRK: the return address and the copy of P saved on the stack, I set, and PC
loaded from the BRK vector. -/
def takeTrap (ret : Addr) (s : State) : Except Fault State :=
  let s1 := pushWord ret s
  let s2 := push (pushedStatus s1.p) s1
  let s3 := s2.setP (setFlag .i true s2.p)
  match read16 Config.brkVector s3 with
  | .error f => .error f
  | .ok (target, s4) => .ok (s4.setPc target)

/-- R313, R279: the trap return: P, then PC from the stack. -/
def returnFromTrap (s : State) : State :=
  let (target, s1) := popWord (pullStatus s)
  s1.setPc target

/-! Fetching. -/

/-- R140: the start of a step: no warning and no error yet. -/
def State.begin (s : State) : State := (s.setWarnings []).setError none

/-- R140, R141: the bus reads of the opcode byte and of the operand bytes its descriptor asks for, at increasing addresses
from PC. PC itself is moved by the instruction's meaning (log 22). -/
def fetch (s : State) : Except Fault (Instr × State) :=
  match busRead s.pc s with
  | .error f => .error f
  | .ok (op, s1) =>
    match operandCount op with
    | 0 => .ok (instrOf op 0 0, s1)
    | 1 =>
      match busRead (s.pc + 1) s1 with
      | .error f => .error f
      | .ok (b1, s2) => .ok (instrOf op b1 0, s2)
    | _ =>
      match busRead (s.pc + 1) s1 with
      | .error f => .error f
      | .ok (b1, s2) =>
        match busRead (s.pc + 2) s2 with
        | .error f => .error f
        | .ok (b2, s3) => .ok (instrOf op b1 b2, s3)

/-! Placing bytes from outside: the host's memory image and the loader's PRG buffer (R350, R8). -/

/-- Whether an image can hold a byte at an address: internal RAM, or the PRG buffer under NROM. -/
def State.placeable (s : State) (a : Addr) : Bool :=
  match region a with
  | .ram _ => true
  | .ext => false
  | .cart =>
    match s.mapper with
    | .nrom _ => true
    | .translated _ _ _ => false

/-- The image with one byte changed at a placeable address. -/
def State.place (s : State) (a : Addr) (v : Byte) : State :=
  match region a with
  | .ram k => s.setRam (s.ram.write k v)
  | .ext => s
  | .cart =>
    match s.mapper with
    | .nrom size => s.setPrg (s.prg.write (nromOffset size a) v)
    | .translated _ _ _ => s

/-- Three bytes placed from an address on. -/
def State.placeThree (s : State) (a : Addr) (b0 b1 b2 : Byte) : State :=
  ((s.place a b0).place (a + 1) b1).place (a + 2) b2

/-- An instruction given as a number (bit 0 the least significant bit of the first byte) placed where fetch reads it: at PC,
or, where the image cannot hold three bytes there, at 0x0000 with PC moved there (log 18). -/
def State.placeInstr (s : State) (nbits w : Nat) : State :=
  let bits := w % 2 ^ nbits
  let s1 :=
    if s.placeable s.pc && s.placeable (s.pc + 1) && s.placeable (s.pc + 2) then s
    else s.setPc 0x0000
  s1.placeThree s1.pc (BitVec.ofNat 8 bits) (BitVec.ofNat 8 (bits / 0x100)) (BitVec.ofNat 8 (bits / 0x10000))

end Sys2Proof.Machine
end

