-- ==== Sys2Proof/Machine/Operands.lean ====
section
/-! DEFINITION. The addressing-mode resolver and the operand (40_dispatch_addressing.md R145-R161), and the shared shapes of
a meaning: every meaning first moves PC past the instruction's bytes, as the dispatcher and the resolver did (R140). -/

namespace Sys2Proof.Machine

/-- R111: the length of an instruction whose operand has an effective address. -/
def addressedLength : Addressed → Nat
  | .zp _ | .zpx _ | .zpy _ | .indx _ | .indy _ => 2
  | .abs _ | .absx _ | .absy _ => 3

/-- R111: the length of an instruction of class read. -/
def sourceLength : Source → Nat
  | .imm _ => 2
  | .mem m => addressedLength m

/-- R111: the length of a shift or rotate. -/
def targetLength : Target → Nat
  | .acc => 1
  | .mem m => addressedLength m

/-- R149-R154, R156, R157: the effective address. The pointers of INDX and INDY lie in the zero page (log 14). -/
def effAddr (m : Addressed) (s : State) : Addr :=
  match m with
  | .zp z => zext z
  | .zpx z => zext (z + s.x)
  | .zpy z => zext (z + s.y)
  | .abs w => w
  | .absx w => w + zext s.x
  | .absy w => w + zext s.y
  | .indx z => s.zpWord (z + s.x)
  | .indy z => s.zpWord z + zext s.y

/-- R160: the operand value M of an instruction of class read, one bus read for an effective address. -/
def readSource (src : Source) (s : State) : Except Fault (Byte × State) :=
  match src with
  | .imm v => .ok (v, s)
  | .mem m => busRead (effAddr m s) s

/-- R158: the branch target from the address of the next instruction. -/
def branchTarget (next : Addr) (r : Byte) : Addr := next + sext r

/-- The answer of a meaning from the answer of its accesses. -/
def answer : Except Fault State → Result
  | .ok s => .next s
  | .error f => .fault f

/-- An instruction of class read: M is read, then the registers are written. -/
def withSource (src : Source) (s : State) (k : Byte → State → State) : Result :=
  match readSource src (s.advance (sourceLength src)) with
  | .ok (v, t) => .next (k v t)
  | .error f => .fault f

/-- An instruction of class write (R160): one write at the effective address, no read of it. -/
def storeAt (m : Addressed) (v : Byte) (s : State) : Result :=
  answer (busWrite (effAddr m s) v (s.advance (addressedLength m)))

/-- A read-modifyTarget-write in memory (R160): M read once, then the result written once to the same address. -/
def modifyAt (op : Byte → Byte → Modified) (m : Addressed) (s : State) : Result :=
  match busRead (effAddr m s) (s.advance (addressedLength m)) with
  | .error f => .fault f
  | .ok (v, s1) =>
    match busWrite (effAddr m s) (op v s1.p).result s1 with
    | .error f => .fault f
    | .ok s2 => .next (s2.setP (op v s1.p).status)

/-- A shift or rotate (43_shift_rotate.md): in A or in memory. -/
def modifyTarget (op : Byte → Byte → Modified) (t : Target) (s : State) : Result :=
  match t with
  | .acc => .next (((s.advance 1).setA (op s.a s.p).result).setP (op s.a s.p).status)
  | .mem m => modifyAt op m s

end Sys2Proof.Machine
end

