-- ==== Sys2Proof/Machine/Arith.lean ====
section
/-! DEFINITION. Arithmetic, logic, compare, increment and decrement (42_arithmetic_logic.md). -/

namespace Sys2Proof.Machine

/-- R200: ADC, with its operand; binary whatever D holds (R45). -/
def adcOf (src : Source) (s : State) : Result :=
  withSource src s fun m t =>
    let r := addCore t.a m (flag .c t.p)
    (t.setA r.result).setP (setSum r t.p)

/-- R201: SBC, with its operand; binary whatever D holds (R45). -/
def sbcOf (src : Source) (s : State) : Result :=
  withSource src s fun m t =>
    let r := subCore t.a m (flag .c t.p)
    (t.setA r.result).setP (setSum r t.p)

/-- R202: AND, with its operand. -/
def andOf (src : Source) (s : State) : Result :=
  withSource src s fun m t => (t.setA (t.a &&& m)).setP (setZN (t.a &&& m) t.p)

/-- R203: ORA, with its operand. -/
def oraOf (src : Source) (s : State) : Result :=
  withSource src s fun m t => (t.setA (t.a ||| m)).setP (setZN (t.a ||| m) t.p)

/-- R204: EOR, with its operand. -/
def eorOf (src : Source) (s : State) : Result :=
  withSource src s fun m t => (t.setA (t.a ^^^ m)).setP (setZN (t.a ^^^ m) t.p)

/-- R205: BIT, with its operand; A is not written. -/
def bitOf (src : Source) (s : State) : Result :=
  withSource src s fun m t => t.setP (bitTest t.a m t.p)

/-- R206: CMP, with its operand. -/
def cmpOf (src : Source) (s : State) : Result :=
  withSource src s fun m t => t.setP (compareFlags t.a m t.p)

/-- R207: CPX, with its operand. -/
def cpxOf (src : Source) (s : State) : Result :=
  withSource src s fun m t => t.setP (compareFlags t.x m t.p)

/-- R208: CPY, with its operand. -/
def cpyOf (src : Source) (s : State) : Result :=
  withSource src s fun m t => t.setP (compareFlags t.y m t.p)

/-- R209: INC, with its operand. -/
def incOf (m : Addressed) (s : State) : Result := modifyAt increment m s

/-- R210: DEC, with its operand. -/
def decOf (m : Addressed) (s : State) : Result := modifyAt decrement m s

/-- ADC IMM (R200, R148). -/
def execAdcImm (v : Byte) (s : State) : Result := adcOf (.imm v) s

/-- ADC ZP (R200, R149). -/
def execAdcZp (z : Byte) (s : State) : Result := adcOf (.mem (.zp z)) s

/-- ADC ZPX (R200, R150). -/
def execAdcZpx (z : Byte) (s : State) : Result := adcOf (.mem (.zpx z)) s

/-- ADC ABS (R200, R152). -/
def execAdcAbs (w : Addr) (s : State) : Result := adcOf (.mem (.abs w)) s

/-- ADC ABSX (R200, R153). -/
def execAdcAbsx (w : Addr) (s : State) : Result := adcOf (.mem (.absx w)) s

/-- ADC ABSY (R200, R154). -/
def execAdcAbsy (w : Addr) (s : State) : Result := adcOf (.mem (.absy w)) s

/-- ADC INDX (R200, R156). -/
def execAdcIndx (z : Byte) (s : State) : Result := adcOf (.mem (.indx z)) s

/-- ADC INDY (R200, R157). -/
def execAdcIndy (z : Byte) (s : State) : Result := adcOf (.mem (.indy z)) s

/-- SBC IMM (R201, R148). -/
def execSbcImm (v : Byte) (s : State) : Result := sbcOf (.imm v) s

/-- SBC ZP (R201, R149). -/
def execSbcZp (z : Byte) (s : State) : Result := sbcOf (.mem (.zp z)) s

/-- SBC ZPX (R201, R150). -/
def execSbcZpx (z : Byte) (s : State) : Result := sbcOf (.mem (.zpx z)) s

/-- SBC ABS (R201, R152). -/
def execSbcAbs (w : Addr) (s : State) : Result := sbcOf (.mem (.abs w)) s

/-- SBC ABSX (R201, R153). -/
def execSbcAbsx (w : Addr) (s : State) : Result := sbcOf (.mem (.absx w)) s

/-- SBC ABSY (R201, R154). -/
def execSbcAbsy (w : Addr) (s : State) : Result := sbcOf (.mem (.absy w)) s

/-- SBC INDX (R201, R156). -/
def execSbcIndx (z : Byte) (s : State) : Result := sbcOf (.mem (.indx z)) s

/-- SBC INDY (R201, R157). -/
def execSbcIndy (z : Byte) (s : State) : Result := sbcOf (.mem (.indy z)) s

/-- AND IMM (R202, R148). -/
def execAndImm (v : Byte) (s : State) : Result := andOf (.imm v) s

/-- AND ZP (R202, R149). -/
def execAndZp (z : Byte) (s : State) : Result := andOf (.mem (.zp z)) s

/-- AND ZPX (R202, R150). -/
def execAndZpx (z : Byte) (s : State) : Result := andOf (.mem (.zpx z)) s

/-- AND ABS (R202, R152). -/
def execAndAbs (w : Addr) (s : State) : Result := andOf (.mem (.abs w)) s

/-- AND ABSX (R202, R153). -/
def execAndAbsx (w : Addr) (s : State) : Result := andOf (.mem (.absx w)) s

/-- AND ABSY (R202, R154). -/
def execAndAbsy (w : Addr) (s : State) : Result := andOf (.mem (.absy w)) s

/-- AND INDX (R202, R156). -/
def execAndIndx (z : Byte) (s : State) : Result := andOf (.mem (.indx z)) s

/-- AND INDY (R202, R157). -/
def execAndIndy (z : Byte) (s : State) : Result := andOf (.mem (.indy z)) s

/-- ORA IMM (R203, R148). -/
def execOraImm (v : Byte) (s : State) : Result := oraOf (.imm v) s

/-- ORA ZP (R203, R149). -/
def execOraZp (z : Byte) (s : State) : Result := oraOf (.mem (.zp z)) s

/-- ORA ZPX (R203, R150). -/
def execOraZpx (z : Byte) (s : State) : Result := oraOf (.mem (.zpx z)) s

/-- ORA ABS (R203, R152). -/
def execOraAbs (w : Addr) (s : State) : Result := oraOf (.mem (.abs w)) s

/-- ORA ABSX (R203, R153). -/
def execOraAbsx (w : Addr) (s : State) : Result := oraOf (.mem (.absx w)) s

/-- ORA ABSY (R203, R154). -/
def execOraAbsy (w : Addr) (s : State) : Result := oraOf (.mem (.absy w)) s

/-- ORA INDX (R203, R156). -/
def execOraIndx (z : Byte) (s : State) : Result := oraOf (.mem (.indx z)) s

/-- ORA INDY (R203, R157). -/
def execOraIndy (z : Byte) (s : State) : Result := oraOf (.mem (.indy z)) s

/-- EOR IMM (R204, R148). -/
def execEorImm (v : Byte) (s : State) : Result := eorOf (.imm v) s

/-- EOR ZP (R204, R149). -/
def execEorZp (z : Byte) (s : State) : Result := eorOf (.mem (.zp z)) s

/-- EOR ZPX (R204, R150). -/
def execEorZpx (z : Byte) (s : State) : Result := eorOf (.mem (.zpx z)) s

/-- EOR ABS (R204, R152). -/
def execEorAbs (w : Addr) (s : State) : Result := eorOf (.mem (.abs w)) s

/-- EOR ABSX (R204, R153). -/
def execEorAbsx (w : Addr) (s : State) : Result := eorOf (.mem (.absx w)) s

/-- EOR ABSY (R204, R154). -/
def execEorAbsy (w : Addr) (s : State) : Result := eorOf (.mem (.absy w)) s

/-- EOR INDX (R204, R156). -/
def execEorIndx (z : Byte) (s : State) : Result := eorOf (.mem (.indx z)) s

/-- EOR INDY (R204, R157). -/
def execEorIndy (z : Byte) (s : State) : Result := eorOf (.mem (.indy z)) s

/-- BIT ZP (R205, R149). -/
def execBitZp (z : Byte) (s : State) : Result := bitOf (.mem (.zp z)) s

/-- BIT ABS (R205, R152). -/
def execBitAbs (w : Addr) (s : State) : Result := bitOf (.mem (.abs w)) s

/-- CMP IMM (R206, R148). -/
def execCmpImm (v : Byte) (s : State) : Result := cmpOf (.imm v) s

/-- CMP ZP (R206, R149). -/
def execCmpZp (z : Byte) (s : State) : Result := cmpOf (.mem (.zp z)) s

/-- CMP ZPX (R206, R150). -/
def execCmpZpx (z : Byte) (s : State) : Result := cmpOf (.mem (.zpx z)) s

/-- CMP ABS (R206, R152). -/
def execCmpAbs (w : Addr) (s : State) : Result := cmpOf (.mem (.abs w)) s

/-- CMP ABSX (R206, R153). -/
def execCmpAbsx (w : Addr) (s : State) : Result := cmpOf (.mem (.absx w)) s

/-- CMP ABSY (R206, R154). -/
def execCmpAbsy (w : Addr) (s : State) : Result := cmpOf (.mem (.absy w)) s

/-- CMP INDX (R206, R156). -/
def execCmpIndx (z : Byte) (s : State) : Result := cmpOf (.mem (.indx z)) s

/-- CMP INDY (R206, R157). -/
def execCmpIndy (z : Byte) (s : State) : Result := cmpOf (.mem (.indy z)) s

/-- CPX IMM (R207, R148). -/
def execCpxImm (v : Byte) (s : State) : Result := cpxOf (.imm v) s

/-- CPX ZP (R207, R149). -/
def execCpxZp (z : Byte) (s : State) : Result := cpxOf (.mem (.zp z)) s

/-- CPX ABS (R207, R152). -/
def execCpxAbs (w : Addr) (s : State) : Result := cpxOf (.mem (.abs w)) s

/-- CPY IMM (R208, R148). -/
def execCpyImm (v : Byte) (s : State) : Result := cpyOf (.imm v) s

/-- CPY ZP (R208, R149). -/
def execCpyZp (z : Byte) (s : State) : Result := cpyOf (.mem (.zp z)) s

/-- CPY ABS (R208, R152). -/
def execCpyAbs (w : Addr) (s : State) : Result := cpyOf (.mem (.abs w)) s

/-- INC ZP (R209, R149). -/
def execIncZp (z : Byte) (s : State) : Result := incOf (.zp z) s

/-- INC ZPX (R209, R150). -/
def execIncZpx (z : Byte) (s : State) : Result := incOf (.zpx z) s

/-- INC ABS (R209, R152). -/
def execIncAbs (w : Addr) (s : State) : Result := incOf (.abs w) s

/-- INC ABSX (R209, R153). -/
def execIncAbsx (w : Addr) (s : State) : Result := incOf (.absx w) s

/-- DEC ZP (R210, R149). -/
def execDecZp (z : Byte) (s : State) : Result := decOf (.zp z) s

/-- DEC ZPX (R210, R150). -/
def execDecZpx (z : Byte) (s : State) : Result := decOf (.zpx z) s

/-- DEC ABS (R210, R152). -/
def execDecAbs (w : Addr) (s : State) : Result := decOf (.abs w) s

/-- DEC ABSX (R210, R153). -/
def execDecAbsx (w : Addr) (s : State) : Result := decOf (.absx w) s

/-- INX (R211). -/
def execInx (s : State) : Result :=
  .next (((s.advance 1).setX (increment s.x s.p).result).setP (increment s.x s.p).status)

/-- INY (R212). -/
def execIny (s : State) : Result :=
  .next (((s.advance 1).setY (increment s.y s.p).result).setP (increment s.y s.p).status)

/-- DEX (R213). -/
def execDex (s : State) : Result :=
  .next (((s.advance 1).setX (decrement s.x s.p).result).setP (decrement s.x s.p).status)

/-- DEY (R214). -/
def execDey (s : State) : Result :=
  .next (((s.advance 1).setY (decrement s.y s.p).result).setP (decrement s.y s.p).status)

end Sys2Proof.Machine
end

