-- ==== Sys2Proof/Machine/Control.lean ====
section
/-! DEFINITION. Jumps, subroutine call and return, branches (45_control_transfer.md). -/

namespace Sys2Proof.Machine

/-- R253: a branch: PC becomes the target where it is taken, the next instruction where it is not. -/
def branch (taken : Bool) (r : Byte) (s : State) : Result :=
  let t := s.advance 2
  .next (if taken then t.setPc (branchTarget t.pc r) else t)

/-- JMP ABS (R250, R152): nothing is read at the target. -/
def execJmpAbs (w : Addr) (s : State) : Result := .next (s.setPc w)

/-- JMP IND (R250, R155): the pointer's high byte comes from the page of its low byte. -/
def execJmpInd (w : Addr) (s : State) : Result :=
  match read16PageWrap w (s.advance 3) with
  | .ok (target, t) => .next (t.setPc target)
  | .error f => .fault f

/-- JSR ABS (R251): the address of its own last byte pushed, high byte first. -/
def execJsr (w : Addr) (s : State) : Result := .next ((pushWord (s.pc + 2) s).setPc w)

/-- RTS (R252): the popped word plus one. -/
def execRts (s : State) : Result :=
  let (ret, t) := popWord s
  .next (t.setPc (ret + 1))

/-- BCC (R254). -/
def execBcc (r : Byte) (s : State) : Result := branch (!flag .c s.p) r s

/-- BCS (R255). -/
def execBcs (r : Byte) (s : State) : Result := branch (flag .c s.p) r s

/-- BEQ (R256). -/
def execBeq (r : Byte) (s : State) : Result := branch (flag .z s.p) r s

/-- BNE (R257). -/
def execBne (r : Byte) (s : State) : Result := branch (!flag .z s.p) r s

/-- BMI (R258). -/
def execBmi (r : Byte) (s : State) : Result := branch (flag .n s.p) r s

/-- BPL (R259). -/
def execBpl (r : Byte) (s : State) : Result := branch (!flag .n s.p) r s

/-- BVC (R260). -/
def execBvc (r : Byte) (s : State) : Result := branch (!flag .v s.p) r s

/-- BVS (R261). -/
def execBvs (r : Byte) (s : State) : Result := branch (flag .v s.p) r s

end Sys2Proof.Machine
end

