-- ==== Sys2Proof/Machine/Shift.lean ====
section
/-! DEFINITION. Shifts and rotates (43_shift_rotate.md). -/

namespace Sys2Proof.Machine

/-- R230: ASL, with its operand. -/
def aslOf (t : Target) (s : State) : Result := modifyTarget shiftLeft t s

/-- R231: LSR, with its operand. -/
def lsrOf (t : Target) (s : State) : Result := modifyTarget shiftRight t s

/-- R232: ROL, with its operand. -/
def rolOf (t : Target) (s : State) : Result := modifyTarget rotateLeft t s

/-- R233: ROR, with its operand. -/
def rorOf (t : Target) (s : State) : Result := modifyTarget rotateRight t s

/-- ASL ACC (R230, R147). -/
def execAslAcc (s : State) : Result := aslOf .acc s

/-- ASL ZP (R230, R149). -/
def execAslZp (z : Byte) (s : State) : Result := aslOf (.mem (.zp z)) s

/-- ASL ZPX (R230, R150). -/
def execAslZpx (z : Byte) (s : State) : Result := aslOf (.mem (.zpx z)) s

/-- ASL ABS (R230, R152). -/
def execAslAbs (w : Addr) (s : State) : Result := aslOf (.mem (.abs w)) s

/-- ASL ABSX (R230, R153). -/
def execAslAbsx (w : Addr) (s : State) : Result := aslOf (.mem (.absx w)) s

/-- LSR ACC (R231, R147). -/
def execLsrAcc (s : State) : Result := lsrOf .acc s

/-- LSR ZP (R231, R149). -/
def execLsrZp (z : Byte) (s : State) : Result := lsrOf (.mem (.zp z)) s

/-- LSR ZPX (R231, R150). -/
def execLsrZpx (z : Byte) (s : State) : Result := lsrOf (.mem (.zpx z)) s

/-- LSR ABS (R231, R152). -/
def execLsrAbs (w : Addr) (s : State) : Result := lsrOf (.mem (.abs w)) s

/-- LSR ABSX (R231, R153). -/
def execLsrAbsx (w : Addr) (s : State) : Result := lsrOf (.mem (.absx w)) s

/-- ROL ACC (R232, R147). -/
def execRolAcc (s : State) : Result := rolOf .acc s

/-- ROL ZP (R232, R149). -/
def execRolZp (z : Byte) (s : State) : Result := rolOf (.mem (.zp z)) s

/-- ROL ZPX (R232, R150). -/
def execRolZpx (z : Byte) (s : State) : Result := rolOf (.mem (.zpx z)) s

/-- ROL ABS (R232, R152). -/
def execRolAbs (w : Addr) (s : State) : Result := rolOf (.mem (.abs w)) s

/-- ROL ABSX (R232, R153). -/
def execRolAbsx (w : Addr) (s : State) : Result := rolOf (.mem (.absx w)) s

/-- ROR ACC (R233, R147). -/
def execRorAcc (s : State) : Result := rorOf .acc s

/-- ROR ZP (R233, R149). -/
def execRorZp (z : Byte) (s : State) : Result := rorOf (.mem (.zp z)) s

/-- ROR ZPX (R233, R150). -/
def execRorZpx (z : Byte) (s : State) : Result := rorOf (.mem (.zpx z)) s

/-- ROR ABS (R233, R152). -/
def execRorAbs (w : Addr) (s : State) : Result := rorOf (.mem (.abs w)) s

/-- ROR ABSX (R233, R153). -/
def execRorAbsx (w : Addr) (s : State) : Result := rorOf (.mem (.absx w)) s

end Sys2Proof.Machine
end

