-- ==== Sys2Proof/Machine/Stack.lean ====
section
/-! DEFINITION. Stack instructions (44_stack.md). -/

namespace Sys2Proof.Machine

/-- PHA (R240). -/
def execPha (s : State) : Result := .next (push s.a (s.advance 1))

/-- PHP (R241): the pushed copy has bits 5 and 4 set, P keeps its own. -/
def execPhp (s : State) : Result := .next (push (pushedStatus s.p) (s.advance 1))

/-- PLA (R242). -/
def execPla (s : State) : Result :=
  let (v, t) := pop (s.advance 1)
  .next ((t.setA v).setP (setZN v t.p))

/-- PLP (R243). -/
def execPlp (s : State) : Result := .next (pullStatus (s.advance 1))

end Sys2Proof.Machine
end

