-- ==== Sys2Proof/Machine/System.lean ====
section
/-! DEFINITION. Flag instructions, NOP, BRK and RTI (46_flags_system.md), and the illegal entry (60_exceptions.md R303). -/

namespace Sys2Proof.Machine

/-- R270-R276: an instruction that writes one flag and nothing else. -/
def writeFlag (f : Flag) (on : Bool) (s : State) : Result :=
  .next ((s.advance 1).setP (setFlag f on s.p))

/-- CLC (R270). -/
def execClc (s : State) : Result := writeFlag .c false s

/-- SEC (R271). -/
def execSec (s : State) : Result := writeFlag .c true s

/-- CLI (R272). -/
def execCli (s : State) : Result := writeFlag .i false s

/-- SEI (R273). -/
def execSei (s : State) : Result := writeFlag .i true s

/-- CLV (R274). -/
def execClv (s : State) : Result := writeFlag .v false s

/-- CLD (R275). -/
def execCld (s : State) : Result := writeFlag .d false s

/-- SED (R276). -/
def execSed (s : State) : Result := writeFlag .d true s

/-- NOP (R277). -/
def execNop (s : State) : Result := .next (s.advance 1)

/-- BRK (R278): the trap is taken; the byte after the opcode is skipped and never read, so the return address is two on. -/
def execBrk (s : State) : Result := answer (takeTrap (s.pc + 2) s)

/-- RTI (R279): no one is added to the popped address. -/
def execRti (s : State) : Result := .next (returnFromTrap s)

/-- The illegal entry (R116, R140, R303): IllegalOpcode with the opcode byte and its address; PC is past the opcode and nothing
else changes. The step returns to the host with this state; a further step is the host's skip (R351, log 7). -/
def execIllegal (op : Byte) (s : State) : Result :=
  .next ((s.advance 1).setError (some { opcode := op, address := s.pc }))

end Sys2Proof.Machine
end

