-- ==== Sys2Proof/Machine/Transfer.lean ====
section
/-! DEFINITION. Loads, stores and register transfers (41_load_store_transfer.md). -/

namespace Sys2Proof.Machine

/-- R180: LDA, with its operand. -/
def ldaOf (src : Source) (s : State) : Result :=
  withSource src s fun m t => (t.setA m).setP (setZN m t.p)

/-- R181: LDX, with its operand. -/
def ldxOf (src : Source) (s : State) : Result :=
  withSource src s fun m t => (t.setX m).setP (setZN m t.p)

/-- R182: LDY, with its operand. -/
def ldyOf (src : Source) (s : State) : Result :=
  withSource src s fun m t => (t.setY m).setP (setZN m t.p)

/-- LDA IMM (R180, R148). -/
def execLdaImm (v : Byte) (s : State) : Result := ldaOf (.imm v) s

/-- LDA ZP (R180, R149). -/
def execLdaZp (z : Byte) (s : State) : Result := ldaOf (.mem (.zp z)) s

/-- LDA ZPX (R180, R150). -/
def execLdaZpx (z : Byte) (s : State) : Result := ldaOf (.mem (.zpx z)) s

/-- LDA ABS (R180, R152). -/
def execLdaAbs (w : Addr) (s : State) : Result := ldaOf (.mem (.abs w)) s

/-- LDA ABSX (R180, R153). -/
def execLdaAbsx (w : Addr) (s : State) : Result := ldaOf (.mem (.absx w)) s

/-- LDA ABSY (R180, R154). -/
def execLdaAbsy (w : Addr) (s : State) : Result := ldaOf (.mem (.absy w)) s

/-- LDA INDX (R180, R156). -/
def execLdaIndx (z : Byte) (s : State) : Result := ldaOf (.mem (.indx z)) s

/-- LDA INDY (R180, R157). -/
def execLdaIndy (z : Byte) (s : State) : Result := ldaOf (.mem (.indy z)) s

/-- LDX IMM (R181, R148). -/
def execLdxImm (v : Byte) (s : State) : Result := ldxOf (.imm v) s

/-- LDX ZP (R181, R149). -/
def execLdxZp (z : Byte) (s : State) : Result := ldxOf (.mem (.zp z)) s

/-- LDX ZPY (R181, R151). -/
def execLdxZpy (z : Byte) (s : State) : Result := ldxOf (.mem (.zpy z)) s

/-- LDX ABS (R181, R152). -/
def execLdxAbs (w : Addr) (s : State) : Result := ldxOf (.mem (.abs w)) s

/-- LDX ABSY (R181, R154). -/
def execLdxAbsy (w : Addr) (s : State) : Result := ldxOf (.mem (.absy w)) s

/-- LDY IMM (R182, R148). -/
def execLdyImm (v : Byte) (s : State) : Result := ldyOf (.imm v) s

/-- LDY ZP (R182, R149). -/
def execLdyZp (z : Byte) (s : State) : Result := ldyOf (.mem (.zp z)) s

/-- LDY ZPX (R182, R150). -/
def execLdyZpx (z : Byte) (s : State) : Result := ldyOf (.mem (.zpx z)) s

/-- LDY ABS (R182, R152). -/
def execLdyAbs (w : Addr) (s : State) : Result := ldyOf (.mem (.abs w)) s

/-- LDY ABSX (R182, R153). -/
def execLdyAbsx (w : Addr) (s : State) : Result := ldyOf (.mem (.absx w)) s

/-- STA ZP (R183, R149). -/
def execStaZp (z : Byte) (s : State) : Result := storeAt (.zp z) s.a s

/-- STA ZPX (R183, R150). -/
def execStaZpx (z : Byte) (s : State) : Result := storeAt (.zpx z) s.a s

/-- STA ABS (R183, R152). -/
def execStaAbs (w : Addr) (s : State) : Result := storeAt (.abs w) s.a s

/-- STA ABSX (R183, R153). -/
def execStaAbsx (w : Addr) (s : State) : Result := storeAt (.absx w) s.a s

/-- STA ABSY (R183, R154). -/
def execStaAbsy (w : Addr) (s : State) : Result := storeAt (.absy w) s.a s

/-- STA INDX (R183, R156). -/
def execStaIndx (z : Byte) (s : State) : Result := storeAt (.indx z) s.a s

/-- STA INDY (R183, R157). -/
def execStaIndy (z : Byte) (s : State) : Result := storeAt (.indy z) s.a s

/-- STX ZP (R184, R149). -/
def execStxZp (z : Byte) (s : State) : Result := storeAt (.zp z) s.x s

/-- STX ZPY (R184, R151). -/
def execStxZpy (z : Byte) (s : State) : Result := storeAt (.zpy z) s.x s

/-- STX ABS (R184, R152). -/
def execStxAbs (w : Addr) (s : State) : Result := storeAt (.abs w) s.x s

/-- STY ZP (R185, R149). -/
def execStyZp (z : Byte) (s : State) : Result := storeAt (.zp z) s.y s

/-- STY ZPX (R185, R150). -/
def execStyZpx (z : Byte) (s : State) : Result := storeAt (.zpx z) s.y s

/-- STY ABS (R185, R152). -/
def execStyAbs (w : Addr) (s : State) : Result := storeAt (.abs w) s.y s

/-- TAX (R186). -/
def execTax (s : State) : Result := .next (((s.advance 1).setX s.a).setP (setZN s.a s.p))

/-- TAY (R187). -/
def execTay (s : State) : Result := .next (((s.advance 1).setY s.a).setP (setZN s.a s.p))

/-- TXA (R188). -/
def execTxa (s : State) : Result := .next (((s.advance 1).setA s.x).setP (setZN s.x s.p))

/-- TYA (R189). -/
def execTya (s : State) : Result := .next (((s.advance 1).setA s.y).setP (setZN s.y s.p))

/-- TSX (R190). -/
def execTsx (s : State) : Result := .next (((s.advance 1).setX s.sp).setP (setZN s.sp s.p))

/-- TXS (R191): no flag, and never a stack warning (R93). -/
def execTxs (s : State) : Result := .next ((s.advance 1).setSp s.x)

end Sys2Proof.Machine
end

