-- ==== Sys2Proof/Machine/Step.lean ====
section
/-! DEFINITION. One step (40_dispatch_addressing.md R140) and how an instruction is put where the next step fetches. -/

namespace Sys2Proof.Machine

/-- R140: the step: the lists of warnings and errors emptied, the instruction fetched and decoded, its meaning run. -/
def step (s : State) : Host.Outcome State Fault Refusal :=
  match fetch s.begin with
  | .ok (i, t) => exec i t
  | .error f => .fault f

/-- s with the instruction whose bits are w placed where step fetches next (log 18). -/
def State.withFetchWord (s : State) (nbits w : Nat) : State := s.placeInstr nbits w

end Sys2Proof.Machine
end

