-- ==== Sys2Proof/Machine/Block.lean ====
section
/-! DEFINITION. The step in the spec's own form (10_state.md R30, R52; 60_exceptions.md R302): the load-time configuration as
its parameters, the processor and what stands behind its bus as its state, warnings and error as its outputs. State is
these four side by side, because the host's step takes one argument (log 1). -/

namespace Sys2Proof.Machine

/-- R52: the configuration fixed at load time. -/
structure Parameters where
  /-- MAPPER, with MAPPER_TRANSLATE and the length of PRG. -/
  mapper : Mapper
  /-- PRG. -/
  prg : Memory
  /-- EXT_REGION. -/
  ext : ExtRegion
deriving DecidableEq, Repr

/-- R30: the tuple (A, X, Y, P, S, PC). -/
structure Processor where
  a : Byte
  x : Byte
  y : Byte
  p : Byte
  sp : Byte
  pc : Addr
deriving DecidableEq, Repr

/-- R70, R52, R83: what stands behind the bus and changes: internal RAM and, outside the block, the states of a supplied
mapper and a supplied EXT_REGION. -/
structure BusState where
  ram : Memory
  mapperState : Nat
  extLog : List ExtAccess
deriving DecidableEq, Repr

/-- R302, R303: what a step reports beside its state. -/
structure Outputs where
  warnings : List Warning
  error : Option IllegalOpcode
deriving DecidableEq, Repr

def State.parameters (s : State) : Parameters := { mapper := s.mapper, prg := s.prg, ext := s.ext }
def State.processor (s : State) : Processor := { a := s.a, x := s.x, y := s.y, p := s.p, sp := s.sp, pc := s.pc }
def State.busState (s : State) : BusState := { ram := s.ram, mapperState := s.mapperState, extLog := s.extLog }
def State.outputs (s : State) : Outputs := { warnings := s.warnings, error := s.error }

/-- The four parts side by side. -/
def State.ofParts (c : Parameters) (r : Processor) (b : BusState) (o : Outputs) : State where
  a := r.a
  x := r.x
  y := r.y
  p := r.p
  sp := r.sp
  pc := r.pc
  ram := b.ram
  prg := c.prg
  mapper := c.mapper
  mapperState := b.mapperState
  ext := c.ext
  extLog := b.extLog
  warnings := o.warnings
  error := o.error

/-- R52, R349: step(processor, bus) under a configuration: the next processor and bus state, and the step's outputs. No
earlier step's outputs and no configuration are among what it reads and writes. -/
def stepWith (c : Parameters) (r : Processor) (b : BusState) : Host.Outcome (Processor × BusState × Outputs) Fault Refusal :=
  match step (State.ofParts c r b { warnings := [], error := none }) with
  | .next t => .next (t.processor, t.busState, t.outputs)
  | .fault f => .fault f
  | .refused q => .refused q

end Sys2Proof.Machine
end

