-- ==== Sys2Proof/Machine/Boot.lean ====
section
/-! DEFINITION. The host's entry points before a run (70_reset_and_hazards.md R340-R344, R349): loading a cartridge and
calling reset; and the names and numbers of the five conditions (60_exceptions.md R300, R301). -/

namespace Sys2Proof.Machine

/-- R300: the five conditions the block reports. -/
inductive Condition where
  | illegalOpcode
  | invalidBusAddress
  | stackOverflow
  | stackUnderflow
  | unsupportedMapper
deriving DecidableEq, Repr

/-- R301: their numbers. -/
def Condition.code : Condition → Nat
  | .illegalOpcode => 0
  | .invalidBusAddress => 1
  | .stackOverflow => 2
  | .stackUnderflow => 3
  | .unsupportedMapper => 4

/-- The condition a warning reports (R300). -/
def Warning.condition : Warning → Condition
  | .stackOverflow => .stackOverflow
  | .stackUnderflow => .stackUnderflow

/-- R78: the mapper id from bytes 6 and 7 of the iNES header. -/
def mapperId (flags6 flags7 : Byte) : Byte := (flags7 &&& (0xF0 : Byte)) ||| ((flags6 &&& (0xF0 : Byte)) >>> (4 : Nat))

/-- Why a cartridge is not loaded. -/
inductive LoadError where
  /-- R77, R307: UnsupportedMapper. -/
  | unsupportedMapper (id : Byte)
  /-- R79, D25: a PRG buffer of a length NROM does not take. -/
  | prgLength (bytes : Nat)
deriving DecidableEq, Repr

/-- A byte image from a key on, as canonical memory. -/
def imageFrom : Nat → List Byte → Memory
  | _, [] => []
  | k, v :: rest => if v = Config.unlistedByte then imageFrom (k + 1) rest else (k, v) :: imageFrom (k + 1) rest

/-- R77, R79, R81: the mapper of an id and a PRG buffer, from the MAPPER_TRANSLATEs the platform supplies. -/
def selectMapper (id : Byte) (prg : List Byte) (translates : Byte → Option MapperTranslate) : Except LoadError Mapper :=
  if id = 0 then
    if prg.length = PrgSize.k16.bytes then .ok (.nrom .k16)
    else if prg.length = PrgSize.k32.bytes then .ok (.nrom .k32)
    else .error (.prgLength prg.length)
  else
    match translates id with
    | some t => .ok (.translated id prg.length t)
    | none => .error (.unsupportedMapper id)

/-- R81: the state a mapper has when it is loaded; NROM has none. -/
def Mapper.initialState : Mapper → Nat
  | .nrom _ => 0
  | .translated _ _ t => t.initial

/-- R8, R344, R349: load, with every load-time parameter of R8 as an argument: MAPPER (the id), PRG, RAM_INIT (its first
2048 bytes), MAPPER_TRANSLATE (by id) and EXT_REGION. The registers of the answer mean nothing before reset is called, which
takes P_RESET. -/
def load (id : Byte) (prg ramInit : List Byte) (translates : Byte → Option MapperTranslate) (ext : ExtRegion) :
    Except LoadError State :=
  match selectMapper id prg translates with
  | .error e => .error e
  | .ok mapper =>
    .ok { State.reset with
      ram := imageFrom 0 (ramInit.take Config.ramBytes)
      prg := imageFrom 0 prg
      mapper := mapper
      mapperState := mapper.initialState
      ext := ext }

/-- R340-R342: reset(bus) with the parameter P_RESET: the registers, then PC from the reset vector. Memory, the mapper and
EXT_REGION keep what they hold; an unmapped vector makes reset fail. -/
def hostReset (pReset : Byte) (s : State) : Except Fault State :=
  let s1 := (((((s.begin.setA 0x00).setX 0x00).setY 0x00).setP pReset).setSp 0xFF)
  match read16 Config.resetVector s1 with
  | .error f => .error f
  | .ok (target, t) => .ok (t.setPc target)

end Sys2Proof.Machine
end

