-- ==== Sys2Proof/Safety.lean ====
section
/-! DEFINITION. The terms claims about runs use: well-formed states, the load-time configuration, the plain memory map,
reaching a state, running on, and what a step reported. -/

namespace Sys2Proof.Machine

/-- Whether an offset lies in the PRG buffer a mapper was loaded with. -/
def Mapper.holdsOffset : Mapper → Nat → Bool
  | .nrom size, k => decide (k < size.bytes)
  | .translated _ len _, k => decide (k < len)

/-- Whether the mapper is NROM. -/
def Mapper.isNrom : Mapper → Bool
  | .nrom _ => true
  | .translated _ _ _ => false

/-- What every state of a run keeps: RAM and PRG in canonical form with keys inside them (R73, R79), and no state of a unit
that is not there (R80, R83). -/
abbrev State.wf (s : State) : Prop :=
  s.ram.wf ∧ (∀ c ∈ s.ram, c.1 < Config.ramBytes) ∧
  s.prg.wf ∧ (∀ c ∈ s.prg, s.mapper.holdsOffset c.1 = true) ∧
  (s.mapper.isNrom = true → s.mapperState = 0) ∧ (s.ext = .empty → s.extLog = [])

/-- R52: the configuration fixed at load time. -/
abbrev SameCartridge (s t : State) : Prop := t.prg = s.prg ∧ t.mapper = s.mapper ∧ t.ext = s.ext

/-- Whether a mapper answers every address of the cartridge window: NROM (R89), and a MAPPER_TRANSLATE that leaves no
vector byte unmapped (R342, R278). -/
def Mapper.mapsVectors : Mapper → Bool
  | .nrom _ => true
  | .translated _ _ t => t.vectorGaps.isEmpty

/-- R72, R83: the default EXT_REGION, nothing at 0x2000-0x7FFF, beside a mapper that answers its whole window. -/
abbrev State.plainMap (s : State) : Prop := s.mapper.mapsVectors = true ∧ s.ext = .empty

/-- R76: an address of the one region that is unmapped by default. -/
abbrev unmapped (a : Addr) : Prop := 0x2000 ≤ a.toNat ∧ a.toNat < 0x8000

/-- t comes after s by some number of steps. -/
inductive Reaches : State → State → Prop where
  | refl (s : State) : Reaches s s
  | step {s t u : State} (head : Sys2Proof.Machine.step s = .next t) (tail : Reaches t u) : Reaches s u

/-- A run from s never stops. -/
def RunsOn (s : State) : Prop := ∀ t, Reaches s t → ∃ u, Sys2Proof.Machine.step t = .next u

/-- The step that led to s returned Ok with no warning (R302). -/
abbrev State.quiet (s : State) : Prop := s.warnings = [] ∧ s.error = none

/-! What the spec's summaries list. -/

/-- R48: the flags an instruction may write; the illegal entry writes none (R303). -/
def listedFlags : Mnemonic → List Flag
  | .LDA | .LDX | .LDY | .TAX | .TAY | .TXA | .TYA | .TSX | .PLA => [.n, .z]
  | .AND | .ORA | .EOR | .INC | .DEC | .INX | .INY | .DEX | .DEY => [.n, .z]
  | .ADC | .SBC => [.n, .v, .z, .c]
  | .CMP | .CPX | .CPY | .ASL | .LSR | .ROL | .ROR => [.n, .z, .c]
  | .BIT => [.n, .v, .z]
  | .CLC | .SEC => [.c]
  | .CLI | .SEI | .BRK => [.i]
  | .CLV => [.v]
  | .CLD | .SED => [.d]
  | .PLP | .RTI => [.n, .v, .d, .i, .z, .c]
  | .STA | .STX | .STY | .TXS | .PHA | .PHP | .JMP | .JSR | .RTS | .NOP => []
  | .BCC | .BCS | .BEQ | .BNE | .BMI | .BPL | .BVC | .BVS => []
  | .ILLEGAL => []

/-- R31: the mnemonics that write A, the shifts in their accumulator form only. -/
def writesA (i : Instr) : Bool :=
  match i.mnemonic with
  | .LDA | .PLA | .TXA | .TYA | .ADC | .SBC | .AND | .ORA | .EOR => true
  | .ASL | .LSR | .ROL | .ROR => i.mode == some .acc
  | _ => false

/-- R32: the mnemonics that write X. -/
def writesX : List Mnemonic := [.LDX, .TAX, .TSX, .INX, .DEX]

/-- R33: the mnemonics that write Y. -/
def writesY : List Mnemonic := [.LDY, .TAY, .INY, .DEY]

/-- R35: the mnemonics that write S. -/
def writesS : List Mnemonic := [.PHA, .PHP, .PLA, .PLP, .JSR, .RTS, .BRK, .RTI, .TXS]

/-- R254-R261: whether a branch is taken, from P; none for an instruction that is no branch. -/
def branchCondition (m : Mnemonic) (p : Byte) : Option Bool :=
  match m with
  | .BCC => some (!flag .c p)
  | .BCS => some (flag .c p)
  | .BEQ => some (flag .z p)
  | .BNE => some (!flag .z p)
  | .BMI => some (flag .n p)
  | .BPL => some (!flag .n p)
  | .BVC => some (!flag .v p)
  | .BVS => some (flag .v p)
  | _ => none

/-- R240, R241, R251, R278: how many bytes an instruction pushes. -/
def pushCount : Mnemonic → Nat
  | .PHA | .PHP => 1
  | .JSR => 2
  | .BRK => 3
  | _ => 0

/-- R242, R243, R252, R279: how many bytes an instruction pops. -/
def popCount : Mnemonic → Nat
  | .PLA | .PLP => 1
  | .RTS => 2
  | .RTI => 3
  | _ => 0

/-- R305: the warnings of n pushes from a stack pointer on, one for each push made at S = 0x00. -/
def pushWarnings : Nat → Byte → List Warning
  | 0, _ => []
  | n + 1, sp => (if sp = 0x00 then [.stackOverflow] else []) ++ pushWarnings n (sp - 1)

/-- R306: the warnings of n pops from a stack pointer on, one for each pop made at S = 0xFF. -/
def popWarnings : Nat → Byte → List Warning
  | 0, _ => []
  | n + 1, sp => (if sp = 0xFF then [.stackUnderflow] else []) ++ popWarnings n (sp + 1)

/-- R73: two addresses that name the same byte: equal, or mirrors of one byte of internal RAM. -/
abbrev SameByte (a b : Addr) : Prop :=
  a = b ∨ (a.toNat < 0x2000 ∧ b.toNat < 0x2000 ∧ a &&& 0x07FF = b &&& 0x07FF)

/-- R92: the bus address of the stack byte at a stack pointer. -/
abbrev stackAddr (sp : Byte) : Addr := 0x0100 + zext sp

/-- R155: the address of the high byte of a JMP IND pointer, in the page of the low byte. -/
abbrev pageNext (a : Addr) : Addr := (a &&& 0xFF00) ||| ((a + 1) &&& 0x00FF)

/-- R155, R278: the two reads of JMP IND at its pointer and of BRK at its vector, low byte first. -/
def targetReads : Instr → List (Addr × AccessKind)
  | .jmpInd w => [(w, .read), (pageNext w, .read)]
  | .brk => [(0xFFFE, .read), (0xFFFF, .read)]
  | _ => []

/-- R141: the accesses of an instruction that can lie outside internal RAM, in their order, after the fetch of its bytes.
The pointer reads of INDX and INDY and the stack accesses lie in internal RAM (R74, R92). -/
def accesses (i : Instr) (s : State) : List (Addr × AccessKind) :=
  match i.source with
  | some (.mem m) => [(effAddr m s, .read)]
  | some (.imm _) => []
  | none =>
    match i.dest with
    | some m => [(effAddr m s, .write)]
    | none =>
      match i.target with
      | some (.mem m) => [(effAddr m s, .read), (effAddr m s, .write)]
      | some .acc => []
      | none => targetReads i

/-- The opcode bytes of a mnemonic, each with its addressing mode, are exactly the listed ones, whatever the operand bytes. -/
def EncodedAs (m : Mnemonic) (forms : List (Byte × Mode)) : Prop :=
  ∀ (op b1 b2 : Byte) (mode : Mode),
    ((instrOf op b1 b2).mnemonic = m ∧ (instrOf op b1 b2).mode = some mode) ↔ (op, mode) ∈ forms

/-- A status byte with bits 5 and 4 replaced and every other bit kept (R39). -/
abbrev withUnused (bits p : Byte) : Byte := (p &&& 0xCF) ||| (bits &&& 0x30)

/-- The state of an outcome changed and a stop left as it is. -/
def mapNext (g : State → State) : Result → Result
  | .next t => .next (g t)
  | .fault f => .fault f
  | .refused r => .refused r

end Sys2Proof.Machine
end

