-- ==== Sys2Proof/Certificates/Slice0/Obligations.lean ====
section
/-! DEFINITION. The statements for the provers, from the numbered rules of spec/. A next state is written as a record update
of the state before, so an equation also says that every other field is unchanged (the frame). -/

open Sys2Proof Sys2Proof.Machine

/-- R73. The four mirrors of a RAM byte are one byte. -/
def Obligations.RamMirrorsNameOneByte : Prop :=
  ∀ (a b : Addr) (v : Byte) (s : State), a.toNat < 0x2000 → b.toNat < 0x2000 → a &&& 0x07FF = b &&& 0x07FF →
    busRead a s = .ok (s.ram.read (a &&& 0x07FF).toNat, s) ∧
    busRead b s = busRead a s ∧
    ∃ t, busWrite a v s = .ok t ∧ busRead b t = .ok (v, t)

/-- R80, R88. Reads of RAM and NROM change nothing; a RAM write changes one byte; a ROM write nothing. -/
def Obligations.BusAccessesHaveNoFurtherEffect : Prop :=
  ∀ (a : Addr) (v : Byte) (s : State),
    (a.toNat < 0x2000 ∨ (0x8000 ≤ a.toNat ∧ s.mapper.isNrom = true) →
      ∃ r, busRead a s = .ok (r, s)) ∧
    (a.toNat < 0x2000 → ∃ t, busWrite a v s = .ok t ∧ t = { s with ram := t.ram } ∧ t.peek a = some v ∧
      ∀ b, ¬ SameByte a b → t.peek b = s.peek b) ∧
    (0x8000 ≤ a.toNat → s.mapper.isNrom = true → busWrite a v s = .ok s)

/-- 20_memory.md sections 1, 2 and 3, notes/assumptions 9, 10. The routing of reads and writes over the three regions. -/
def Obligations.BusRoutesEachAddress : Prop :=
  ∀ (a : Addr) (s : State),
    (a.toNat < 0x2000 →
      busRead a s = .ok (s.ram.read (a &&& 0x07FF).toNat, s) ∧
      ∀ v, busWrite a v s = .ok { s with ram := s.ram.write (a &&& 0x07FF).toNat v }) ∧
    (unmapped a → s.ext = .empty →
      busRead a s = .error (.invalidBusAddress a .read s.warnings) ∧
      ∀ v, busWrite a v s = .error (.invalidBusAddress a .write s.warnings)) ∧
    (unmapped a → s.ext = .device →
      (busRead a s = match Config.extRead s.extLog a with
        | some v => .ok (v, { s with extLog := s.extLog ++ [.read a] })
        | none => .error (.invalidBusAddress a .read s.warnings)) ∧
      ∀ v, busWrite a v s = if Config.extTakes s.extLog a v then .ok { s with extLog := s.extLog ++ [.write a v] }
        else .error (.invalidBusAddress a .write s.warnings)) ∧
    (0x8000 ≤ a.toNat → ∀ size, s.mapper = .nrom size →
      busRead a s = .ok (s.prg.read ((a.toNat - 0x8000) % size.bytes), s) ∧ ∀ v, busWrite a v s = .ok s) ∧
    (0x8000 ≤ a.toNat → ∀ id len tr, s.mapper = .translated id len tr →
      (tr.leavesUnmapped a = false →
        busRead a s = .ok (BitVec.ofNat 8 (tr.read.eval s.prg len s.mapperState a 0x00), s)) ∧
      (tr.leavesUnmapped a = true →
        0xFFFC ≤ a.toNat ∧ busRead a s = .error (.invalidBusAddress a .read s.warnings)) ∧
      ∀ v, busWrite a v s = .ok { s with mapperState := tr.write.eval s.prg len s.mapperState a v })

/-- R76. Under the default EXT_REGION a bus access fails exactly at 0x2000-0x7FFF. -/
def Obligations.InvalidBusAddressExactlyWhereUnmapped : Prop :=
  ∀ (a : Addr) (s : State), s.plainMap →
    (∀ f, busRead a s = .error f ↔ unmapped a ∧ f = .invalidBusAddress a .read s.warnings) ∧
    (∀ v f, busWrite a v s = .error f ↔ unmapped a ∧ f = .invalidBusAddress a .write s.warnings)

/-- R79. NROM maps the cartridge window to the PRG buffer, mirrored for 16 KiB. -/
def Obligations.NromReadsThePrgBuffer : Prop :=
  (∀ (a : Addr) (s : State), 0x8000 ≤ a.toNat →
    (s.mapper = .nrom .k16 → busRead a s = .ok (s.prg.read ((a.toNat - 0x8000) % 16384), s) ∧
      (a.toNat < 0xC000 → busRead (a + 0x4000) s = busRead a s)) ∧
    (s.mapper = .nrom .k32 → busRead a s = .ok (s.prg.read (a.toNat - 0x8000), s))) ∧
  (∀ (prg ramInit : List Byte) (translates : Byte → Option MapperTranslate) (ext : ExtRegion),
    prg.length ≠ 16384 → prg.length ≠ 32768 → load 0 prg ramInit translates ext = .error (.prgLength prg.length))

/-- 20_memory.md section 2, 70_reset_and_hazards.md section 2, notes/assumptions 10, 23. A loaded cartridge holds the loader's PRG buffer and the RAM image, and under NROM the bus reads them. -/
def Obligations.LoadedCartridgeHoldsItsImages : Prop :=
  (∀ (prg ramInit : List Byte) (translates : Byte → Option MapperTranslate) (ext : ExtRegion),
    (prg.length = 16384 ∨ prg.length = 32768) → ramInit.length = 2048 →
    ∃ s, load 0 prg ramInit translates ext = .ok s ∧ s.ext = ext ∧ s.wf ∧
      (∀ a : Addr, 0x8000 ≤ a.toNat →
        ∃ v, prg[(a.toNat - 0x8000) % prg.length]? = some v ∧ busRead a s = .ok (v, s)) ∧
      (∀ a : Addr, a.toNat < 0x2000 →
        ∃ v, ramInit[(a &&& 0x07FF).toNat]? = some v ∧ busRead a s = .ok (v, s))) ∧
  ∀ (id : Byte) (tr : MapperTranslate) (prg ramInit : List Byte) (translates : Byte → Option MapperTranslate)
    (ext : ExtRegion) (s : State), id ≠ 0 → translates id = some tr → load id prg ramInit translates ext = .ok s →
    s.wf ∧ s.mapperState = tr.initial ∧ s.ext = ext ∧ ∀ k (h : k < prg.length), s.prg.read k = prg[k]

/-- R307, R78. A mapper id other than 0 loads only where its translation is given. -/
def Obligations.UnsupportedMapperFailsAtLoad : Prop :=
  (∀ flags6 flags7 : Byte,
    mapperId flags6 flags7 = (flags7 &&& (0xF0 : Byte)) ||| ((flags6 &&& (0xF0 : Byte)) >>> (4 : Nat)) ∧
    (mapperId flags6 flags7).toNat = flags7.toNat / 16 * 16 + flags6.toNat / 16) ∧
  ∀ (id : Byte) (prg ramInit : List Byte) (translates : Byte → Option MapperTranslate) (ext : ExtRegion),
    (id ≠ 0 → translates id = none → load id prg ramInit translates ext = .error (.unsupportedMapper id)) ∧
    (∀ tr, id ≠ 0 → translates id = some tr → ∃ s, load id prg ramInit translates ext = .ok s ∧
      s.mapper = .translated id prg.length tr) ∧
    (∀ j, load 0 prg ramInit translates ext ≠ .error (.unsupportedMapper j))

/-- R340, R341, R342. reset sets the registers, reads the vector, writes no memory, and fails on an unmapped vector. -/
def Obligations.HostResetSetsTheRegisters : Prop :=
  ∀ (pReset : Byte) (s : State),
    (∀ lo hi, s.peek 0xFFFC = some lo → s.peek 0xFFFD = some hi →
      hostReset pReset s = .ok { s with a := 0, x := 0, y := 0, p := pReset, sp := 0xFF, pc := word hi lo, warnings := [], error := none }) ∧
    (s.mapper.isNrom = true → ∃ t, hostReset pReset s = .ok t) ∧
    match s.peek 0xFFFC, s.peek 0xFFFD with
    | none, _ => hostReset pReset s = .error (.invalidBusAddress 0xFFFC .read [])
    | some _, none => hostReset pReset s = .error (.invalidBusAddress 0xFFFD .read [])
    | some _, some _ => ∃ t, hostReset pReset s = .ok t

/-- 10_state.md section 8, notes/assumptions 2, 3, 4, 5, 6. State.reset holds the spec's reset registers and is what reset gives on the model's empty image. -/
def Obligations.ResetStateIsAHostReset : Prop :=
  State.reset.a = 0x00 ∧ State.reset.x = 0x00 ∧ State.reset.y = 0x00 ∧ State.reset.sp = 0xFF ∧
  State.reset.p = Config.pResetDefault ∧ State.reset.quiet ∧
  ∃ t, hostReset Config.pResetDefault State.reset = .ok t ∧ t = State.reset

/-- 10_state.md section 8, notes/assumptions 2, 3, 5. State.reset is well formed. -/
def Obligations.ResetStateIsWellFormed : Prop :=
  State.reset.wf ∧ State.reset.mapper.isNrom = true ∧ State.reset.plainMap

/-- R90. Push writes at 0x0100 + S, decrements S and reports StackOverflow at S = 0x00. -/
def Obligations.PushWritesAndDecrements : Prop :=
  ∀ (v : Byte) (s : State),
    push v s = { s with ram := (push v s).ram, sp := s.sp - 1, warnings := s.warnings ++ if s.sp = 0x00 then [.stackOverflow] else [] } ∧
    (push v s).peek (stackAddr s.sp) = some v ∧
    ∀ a, ¬ SameByte (stackAddr s.sp) a → (push v s).peek a = s.peek a

/-- R91. Pop increments S, reads 0x0100 + S and reports StackUnderflow at S = 0xFF. -/
def Obligations.PopIncrementsAndReads : Prop :=
  ∀ s : State,
    s.peek (stackAddr (s.sp + 1)) = some (pop s).1 ∧
    (pop s).2 = { s with sp := s.sp + 1, warnings := s.warnings ++ if s.sp = 0xFF then [.stackUnderflow] else [] }

/-- 95_test_vectors.md S5 and S6, 20_memory.md section 4. A pop after a push gives the byte back and S its value, and so for a return address. -/
def Obligations.PoppingReturnsWhatWasPushed : Prop :=
  ∀ (v : Byte) (w : Addr) (s : State),
    (pop (push v s)).1 = v ∧ (pop (push v s)).2.sp = s.sp ∧
    (popWord (pushWord w s)).1 = w ∧ (popWord (pushWord w s)).2.sp = s.sp

/-- 20_memory.md section 1, 20_memory.md section 4. The stack engine and the zero-page pointer reads are bus accesses that cannot fail. -/
def Obligations.StackAndZeroPageAreOrdinaryRam : Prop :=
  ∀ (v z : Byte) (s : State),
    busWrite (stackAddr s.sp) v s = .ok { s with ram := (push v s).ram } ∧
    busRead (stackAddr (s.sp + 1)) s = .ok ((pop s).1, s) ∧
    busRead (zext z) s = .ok (s.zpRead z, s)

/-- R40. SetZN: Z says the result is 0, N is its bit 7. -/
def Obligations.SetZnFollowsTheResult : Prop :=
  ∀ (r p : Byte),
    flag .z (setZN r p) = decide (r = 0) ∧ flag .n (setZN r p) = r.getLsbD 7 ∧
    ∀ f, f ≠ .z → f ≠ .n → flag f (setZN r p) = flag f p

/-- R41. The adder: exact sum, carry out of 8 bits, signed overflow. -/
def Obligations.AdderCarriesAndOverflows : Prop :=
  ∀ (a b : Byte) (c : Bool),
    (addCore a b c).result.toNat = (a.toNat + b.toNat + c.toNat) % 0x100 ∧
    ((addCore a b c).carry = true ↔ 0xFF < a.toNat + b.toNat + c.toNat) ∧
    ((addCore a b c).overflow = true ↔
      (a ^^^ (addCore a b c).result) &&& (b ^^^ (addCore a b c).result) &&& 0x80 ≠ 0) ∧
    ((addCore a b c).overflow = true ↔ a.msb = b.msb ∧ (addCore a b c).result.msb ≠ a.msb) ∧
    ((addCore a b c).overflow = true ↔
      a.toInt + b.toInt + (c.toNat : Int) < -128 ∨ 127 < a.toInt + b.toInt + (c.toNat : Int))

/-- R42. Subtraction through the adder: carry means no borrow. -/
def Obligations.SubtractionBorrowsAndOverflows : Prop :=
  ∀ (a m : Byte) (c : Bool),
    subCore a m c = addCore a (m ^^^ 0xFF) c ∧
    ((subCore a m c).result.toNat : Int) = ((a.toNat : Int) - m.toNat - (1 - (c.toNat : Int))) % 0x100 ∧
    ((subCore a m c).carry = true ↔ 0 ≤ (a.toNat : Int) - m.toNat - (1 - (c.toNat : Int))) ∧
    ((subCore a m c).overflow = true ↔
      a.toInt - m.toInt - (1 - (c.toNat : Int)) < -128 ∨ 127 < a.toInt - m.toInt - (1 - (c.toNat : Int)))

/-- R43. Compare writes C, Z and N from an unsigned comparison and nothing else. -/
def Obligations.CompareIsUnsigned : Prop :=
  ∀ (reg m p : Byte),
    (flag .c (compareFlags reg m p) = true ↔ m.toNat ≤ reg.toNat) ∧
    (flag .z (compareFlags reg m p) = true ↔ reg = m) ∧
    (flag .n (compareFlags reg m p) = true ↔ 0x80 ≤ (reg.toNat + 0x100 - m.toNat) % 0x100) ∧
    ∀ f, f ≠ .c → f ≠ .z → f ≠ .n → flag f (compareFlags reg m p) = flag f p

/-- R44. The shifts and rotates as arithmetic, and the bit shifted out in C. -/
def Obligations.ShiftsAndRotatesOnNumbers : Prop :=
  ∀ (v p : Byte),
    (flag .c (shiftLeft v p).status = v.getLsbD 7 ∧ flag .c (rotateLeft v p).status = v.getLsbD 7) ∧
    (flag .c (shiftRight v p).status = v.getLsbD 0 ∧ flag .c (rotateRight v p).status = v.getLsbD 0) ∧
    (shiftLeft v p).result.toNat = 2 * v.toNat % 0x100 ∧
    (shiftRight v p).result.toNat = v.toNat / 2 ∧
    (rotateLeft v p).result.toNat = (2 * v.toNat + (flag .c p).toNat) % 0x100 ∧
    (rotateRight v p).result.toNat = v.toNat / 2 + 0x80 * (flag .c p).toNat ∧
    (∀ op, op ∈ [shiftLeft, shiftRight, rotateLeft, rotateRight] →
      flag .z (op v p).status = decide ((op v p).result = 0) ∧ flag .n (op v p).status = (op v p).result.msb ∧
      ∀ f, f ≠ .z → f ≠ .n → f ≠ .c → flag f (op v p).status = flag f p) ∧
    (rotateRight (rotateLeft v p).result (rotateLeft v p).status).result = v

/-- R149, R150, R151, R152, R153, R154, R156, R157. The effective address of the eight addressed modes, wraps included. -/
def Obligations.EffectiveAddressOfEachMode : Prop :=
  (∀ (z : Byte) (w : Addr) (s : State),
    (effAddr (.zp z) s).toNat = z.toNat ∧
    (effAddr (.zpx z) s).toNat = (z.toNat + s.x.toNat) % 0x100 ∧
    (effAddr (.zpy z) s).toNat = (z.toNat + s.y.toNat) % 0x100 ∧
    (effAddr (.abs w) s).toNat = w.toNat ∧
    (effAddr (.absx w) s).toNat = (w.toNat + s.x.toNat) % 0x10000 ∧
    (effAddr (.absy w) s).toNat = (w.toNat + s.y.toNat) % 0x10000 ∧
    (∀ (p q : Addr) (lo hi : Byte), p.toNat = (z.toNat + s.x.toNat) % 0x100 → q.toNat = (p.toNat + 1) % 0x100 →
      s.peek p = some lo → s.peek q = some hi → (effAddr (.indx z) s).toNat = lo.toNat + 0x100 * hi.toNat) ∧
    (∀ (p q : Addr) (lo hi : Byte), p.toNat = z.toNat → q.toNat = (p.toNat + 1) % 0x100 →
      s.peek p = some lo → s.peek q = some hi →
      (effAddr (.indy z) s).toNat = (lo.toNat + 0x100 * hi.toNat + s.y.toNat) % 0x10000)) ∧
  (∀ m : Mode, m ∈ [.zp, .zpx, .zpy, .indx, .indy] → m.operandBytes = 1) ∧
  (∀ m : Mode, m ∈ [.abs, .absx, .absy] → m.operandBytes = 2) ∧
  (∀ i : Instr, i.mode = some .zpy → i.mnemonic = .LDX ∨ i.mnemonic = .STX)

/-- 30_encoding.md section 4, 40_dispatch_addressing.md section 3. Every instruction of class read, write or read-modify-write has exactly its operand. -/
def Obligations.AccessClassesHaveTheirOperands : Prop :=
  ∀ i : Instr,
    (i.accessClass = some .read ↔ i.source.isSome = true) ∧
    (i.accessClass = some .write ↔ i.dest.isSome = true) ∧
    (i.accessClass = some .rmw ↔ ∃ m, i.target = some (.mem m)) ∧
    (i.mode = some .acc ↔ i.target = some .acc) ∧
    (i.accessClass = none ↔ i.mnemonic = .ILLEGAL) ∧
    (∀ src, i.source = some src → i.length = sourceLength src) ∧
    (∀ m, i.dest = some m → i.length = addressedLength m) ∧
    (∀ t, i.target = some t → i.length = targetLength t)

/-- 40_dispatch_addressing.md section 3, 20_memory.md section 3, notes/assumptions 9, 15. A supplied device sees one read for a read, one write for a store, one of each for a read-modify-write. -/
def Obligations.EachOperandIsAccessedOnce : Prop :=
  ∀ (i : Instr) (m : Addressed) (s : State), s.ext = .device → unmapped (effAddr m s) →
    (i.source = some (.mem m) → match Config.extRead s.extLog (effAddr m s) with
      | some _ => ∃ t, exec i s = .next t ∧ t.extLog = s.extLog ++ [.read (effAddr m s)]
      | none => exec i s = .fault (.invalidBusAddress (effAddr m s) .read s.warnings)) ∧
    (i.dest = some m → ∃ v, (i.mnemonic = .STA → v = s.a) ∧ (i.mnemonic = .STX → v = s.x) ∧ (i.mnemonic = .STY → v = s.y) ∧
      if Config.extTakes s.extLog (effAddr m s) v
      then ∃ t, exec i s = .next t ∧ t.extLog = s.extLog ++ [.write (effAddr m s) v]
      else exec i s = .fault (.invalidBusAddress (effAddr m s) .write s.warnings)) ∧
    (i.target = some (.mem m) → match Config.extRead s.extLog (effAddr m s) with
      | some _ => ∃ v, if Config.extTakes (s.extLog ++ [.read (effAddr m s)]) (effAddr m s) v
        then ∃ t, exec i s = .next t ∧ t.extLog = s.extLog ++ [.read (effAddr m s), .write (effAddr m s) v]
        else exec i s = .fault (.invalidBusAddress (effAddr m s) .write s.warnings)
      | none => exec i s = .fault (.invalidBusAddress (effAddr m s) .read s.warnings))

/-- R180, R181, R182. LDA, LDX, LDY load M and set Z and N. -/
def Obligations.LoadInstructions : Prop :=
  EncodedAs .LDA [(0xA9, .imm), (0xA5, .zp), (0xB5, .zpx), (0xAD, .abs), (0xBD, .absx), (0xB9, .absy), (0xA1, .indx), (0xB1, .indy)] ∧
  EncodedAs .LDX [(0xA2, .imm), (0xA6, .zp), (0xB6, .zpy), (0xAE, .abs), (0xBE, .absy)] ∧
  EncodedAs .LDY [(0xA0, .imm), (0xA4, .zp), (0xB4, .zpx), (0xAC, .abs), (0xBC, .absx)] ∧
  ∀ (i : Instr) (src : Source) (s : State), i.source = some src →
    (∀ (m : Byte) (t : State), readSource src (s.advance i.length) = .ok (m, t) →
      (i.mnemonic = .LDA → exec i s = .next { t with a := m, p := setZN m t.p }) ∧
      (i.mnemonic = .LDX → exec i s = .next { t with x := m, p := setZN m t.p }) ∧
      (i.mnemonic = .LDY → exec i s = .next { t with y := m, p := setZN m t.p })) ∧
    (∀ f, readSource src (s.advance i.length) = .error f → i.mnemonic ∈ [.LDA, .LDX, .LDY] → exec i s = .fault f)

/-- R183, R184, R185. STA, STX, STY write the register at the effective address and change no flag. -/
def Obligations.StoreInstructions : Prop :=
  EncodedAs .STA [(0x85, .zp), (0x95, .zpx), (0x8D, .abs), (0x9D, .absx), (0x99, .absy), (0x81, .indx), (0x91, .indy)] ∧
  EncodedAs .STX [(0x86, .zp), (0x96, .zpy), (0x8E, .abs)] ∧
  EncodedAs .STY [(0x84, .zp), (0x94, .zpx), (0x8C, .abs)] ∧
  ∀ (i : Instr) (m : Addressed) (s : State), i.dest = some m →
    ∃ v, (i.mnemonic = .STA → v = s.a) ∧ (i.mnemonic = .STX → v = s.x) ∧ (i.mnemonic = .STY → v = s.y) ∧
      (∀ t, busWrite (effAddr m s) v (s.advance i.length) = .ok t →
        exec i s = .next t ∧ t.a = s.a ∧ t.x = s.x ∧ t.y = s.y ∧ t.sp = s.sp ∧ t.p = s.p ∧
        t.pc = s.pc + BitVec.ofNat 16 i.length) ∧
      (∀ f, busWrite (effAddr m s) v (s.advance i.length) = .error f → exec i s = .fault f)

/-- R186, R187, R188, R189, R190, R191. TAX, TAY, TXA, TYA, TSX copy a register and set Z and N; TXS copies X to S and sets nothing. -/
def Obligations.TransferInstructions : Prop :=
  EncodedAs .TAX [(0xAA, .imp)] ∧
  EncodedAs .TAY [(0xA8, .imp)] ∧
  EncodedAs .TXA [(0x8A, .imp)] ∧
  EncodedAs .TYA [(0x98, .imp)] ∧
  EncodedAs .TSX [(0xBA, .imp)] ∧
  EncodedAs .TXS [(0x9A, .imp)] ∧
  ∀ s : State,
    exec .tax s = .next { s with x := s.a, p := setZN s.a s.p, pc := s.pc + 1 } ∧
    exec .tay s = .next { s with y := s.a, p := setZN s.a s.p, pc := s.pc + 1 } ∧
    exec .txa s = .next { s with a := s.x, p := setZN s.x s.p, pc := s.pc + 1 } ∧
    exec .tya s = .next { s with a := s.y, p := setZN s.y s.p, pc := s.pc + 1 } ∧
    exec .tsx s = .next { s with x := s.sp, p := setZN s.sp s.p, pc := s.pc + 1 } ∧
    exec .txs s = .next { s with sp := s.x, pc := s.pc + 1 }

/-- R200, R201. ADC and SBC write A and N, V, Z, C from the adder, whatever D holds. -/
def Obligations.AddAndSubtractInstructions : Prop :=
  EncodedAs .ADC [(0x69, .imm), (0x65, .zp), (0x75, .zpx), (0x6D, .abs), (0x7D, .absx), (0x79, .absy), (0x61, .indx), (0x71, .indy)] ∧
  EncodedAs .SBC [(0xE9, .imm), (0xE5, .zp), (0xF5, .zpx), (0xED, .abs), (0xFD, .absx), (0xF9, .absy), (0xE1, .indx), (0xF1, .indy)] ∧
  ∀ (i : Instr) (src : Source) (s : State), i.source = some src →
    (∀ (m : Byte) (t : State), readSource src (s.advance i.length) = .ok (m, t) →
      (i.mnemonic = .ADC → exec i s = .next { t with a := (addCore s.a m (flag .c s.p)).result, p := setZN (addCore s.a m (flag .c s.p)).result (setFlag .v (addCore s.a m (flag .c s.p)).overflow (setFlag .c (addCore s.a m (flag .c s.p)).carry t.p)) }) ∧
      (i.mnemonic = .SBC → exec i s = .next { t with a := (subCore s.a m (flag .c s.p)).result, p := setZN (subCore s.a m (flag .c s.p)).result (setFlag .v (subCore s.a m (flag .c s.p)).overflow (setFlag .c (subCore s.a m (flag .c s.p)).carry t.p)) })) ∧
    (∀ f, readSource src (s.advance i.length) = .error f → i.mnemonic ∈ [.ADC, .SBC] → exec i s = .fault f)

/-- R202, R203, R204, R205. AND, ORA, EOR write A, Z and N; BIT writes Z from A & M and N, V from M. -/
def Obligations.LogicInstructions : Prop :=
  EncodedAs .AND [(0x29, .imm), (0x25, .zp), (0x35, .zpx), (0x2D, .abs), (0x3D, .absx), (0x39, .absy), (0x21, .indx), (0x31, .indy)] ∧
  EncodedAs .ORA [(0x09, .imm), (0x05, .zp), (0x15, .zpx), (0x0D, .abs), (0x1D, .absx), (0x19, .absy), (0x01, .indx), (0x11, .indy)] ∧
  EncodedAs .EOR [(0x49, .imm), (0x45, .zp), (0x55, .zpx), (0x4D, .abs), (0x5D, .absx), (0x59, .absy), (0x41, .indx), (0x51, .indy)] ∧
  EncodedAs .BIT [(0x24, .zp), (0x2C, .abs)] ∧
  ∀ (i : Instr) (src : Source) (s : State), i.source = some src →
    (∀ (m : Byte) (t : State), readSource src (s.advance i.length) = .ok (m, t) →
      (i.mnemonic = .AND → exec i s = .next { t with a := s.a &&& m, p := setZN (s.a &&& m) t.p }) ∧
      (i.mnemonic = .ORA → exec i s = .next { t with a := s.a ||| m, p := setZN (s.a ||| m) t.p }) ∧
      (i.mnemonic = .EOR → exec i s = .next { t with a := s.a ^^^ m, p := setZN (s.a ^^^ m) t.p }) ∧
      (i.mnemonic = .BIT → exec i s = .next { t with p := setFlag .v (m.getLsbD 6) (setFlag .n (m.getLsbD 7) (setFlag .z (decide (s.a &&& m = 0)) t.p)) })) ∧
    (∀ f, readSource src (s.advance i.length) = .error f → i.mnemonic ∈ [.AND, .ORA, .EOR, .BIT] → exec i s = .fault f)

/-- R206, R207, R208. CMP, CPX, CPY compare a register with M and write no register. -/
def Obligations.CompareInstructions : Prop :=
  EncodedAs .CMP [(0xC9, .imm), (0xC5, .zp), (0xD5, .zpx), (0xCD, .abs), (0xDD, .absx), (0xD9, .absy), (0xC1, .indx), (0xD1, .indy)] ∧
  EncodedAs .CPX [(0xE0, .imm), (0xE4, .zp), (0xEC, .abs)] ∧
  EncodedAs .CPY [(0xC0, .imm), (0xC4, .zp), (0xCC, .abs)] ∧
  ∀ (i : Instr) (src : Source) (s : State), i.source = some src →
    (∀ (m : Byte) (t : State), readSource src (s.advance i.length) = .ok (m, t) →
      (i.mnemonic = .CMP → exec i s = .next { t with p := compareFlags s.a m t.p }) ∧
      (i.mnemonic = .CPX → exec i s = .next { t with p := compareFlags s.x m t.p }) ∧
      (i.mnemonic = .CPY → exec i s = .next { t with p := compareFlags s.y m t.p })) ∧
    (∀ f, readSource src (s.advance i.length) = .error f → i.mnemonic ∈ [.CMP, .CPX, .CPY] → exec i s = .fault f)

/-- R209, R210, R211, R212, R213, R214. INC, DEC change a memory byte by one and set Z and N; INX, INY, DEX, DEY a register. -/
def Obligations.IncrementAndDecrementInstructions : Prop :=
  EncodedAs .INC [(0xE6, .zp), (0xF6, .zpx), (0xEE, .abs), (0xFE, .absx)] ∧
  EncodedAs .DEC [(0xC6, .zp), (0xD6, .zpx), (0xCE, .abs), (0xDE, .absx)] ∧
  EncodedAs .INX [(0xE8, .imp)] ∧
  EncodedAs .INY [(0xC8, .imp)] ∧
  EncodedAs .DEX [(0xCA, .imp)] ∧
  EncodedAs .DEY [(0x88, .imp)] ∧
  (∀ (i : Instr) (m : Addressed) (d : Byte) (s : State), i.target = some (.mem m) →
    (i.mnemonic = .INC ∧ d = 1 ∨ i.mnemonic = .DEC ∧ d = -1) →
    (∀ v t u, busRead (effAddr m s) (s.advance i.length) = .ok (v, t) →
      busWrite (effAddr m s) (v + d) t = .ok u → exec i s = .next { u with p := setZN (v + d) s.p }) ∧
    (∀ f, busRead (effAddr m s) (s.advance i.length) = .error f → exec i s = .fault f) ∧
    (∀ v t, busRead (effAddr m s) (s.advance i.length) = .ok (v, t) →
      (∃ u, busWrite (effAddr m s) (v + d) t = .ok u) ∨
      ∃ f, busWrite (effAddr m s) (v + d) t = .error f ∧ exec i s = .fault f)) ∧
  ∀ s : State,
    exec .inx s = .next { s with x := s.x + 1, p := setZN (s.x + 1) s.p, pc := s.pc + 1 } ∧
    exec .iny s = .next { s with y := s.y + 1, p := setZN (s.y + 1) s.p, pc := s.pc + 1 } ∧
    exec .dex s = .next { s with x := s.x - 1, p := setZN (s.x - 1) s.p, pc := s.pc + 1 } ∧
    exec .dey s = .next { s with y := s.y - 1, p := setZN (s.y - 1) s.p, pc := s.pc + 1 }

/-- R230, R231, R232, R233. ASL, LSR, ROL, ROR in the accumulator and in memory. -/
def Obligations.ShiftAndRotateInstructions : Prop :=
  EncodedAs .ASL [(0x0A, .acc), (0x06, .zp), (0x16, .zpx), (0x0E, .abs), (0x1E, .absx)] ∧
  EncodedAs .LSR [(0x4A, .acc), (0x46, .zp), (0x56, .zpx), (0x4E, .abs), (0x5E, .absx)] ∧
  EncodedAs .ROL [(0x2A, .acc), (0x26, .zp), (0x36, .zpx), (0x2E, .abs), (0x3E, .absx)] ∧
  EncodedAs .ROR [(0x6A, .acc), (0x66, .zp), (0x76, .zpx), (0x6E, .abs), (0x7E, .absx)] ∧
  ∀ (i : Instr) (s : State) (res : Byte → Byte) (out : Byte → Bool),
    (i.mnemonic = .ASL ∧ res = (fun v : Byte => v <<< (1 : Nat)) ∧ out = (fun v : Byte => v.getLsbD 7) ∨
     i.mnemonic = .LSR ∧ res = (fun v : Byte => v >>> (1 : Nat)) ∧ out = (fun v : Byte => v.getLsbD 0) ∨
     i.mnemonic = .ROL ∧ res = (fun v : Byte => (v <<< (1 : Nat)) ||| (if flag .c s.p then (0x01 : Byte) else 0)) ∧ out = (fun v : Byte => v.getLsbD 7) ∨
     i.mnemonic = .ROR ∧ res = (fun v : Byte => (v >>> (1 : Nat)) ||| (if flag .c s.p then (0x80 : Byte) else 0)) ∧ out = (fun v : Byte => v.getLsbD 0)) →
    (i.target = some .acc →
      exec i s = .next { s with a := res s.a, p := setZN (res s.a) (setFlag .c (out s.a) s.p), pc := s.pc + 1 }) ∧
    (∀ m, i.target = some (.mem m) →
      (∀ v t u, busRead (effAddr m s) (s.advance i.length) = .ok (v, t) → busWrite (effAddr m s) (res v) t = .ok u →
        exec i s = .next { u with p := setZN (res v) (setFlag .c (out v) s.p) }) ∧
      (∀ f, busRead (effAddr m s) (s.advance i.length) = .error f → exec i s = .fault f) ∧
      (∀ v t, busRead (effAddr m s) (s.advance i.length) = .ok (v, t) →
        (∃ u, busWrite (effAddr m s) (res v) t = .ok u) ∨
        ∃ f, busWrite (effAddr m s) (res v) t = .error f ∧ exec i s = .fault f))

/-- R240, R241, R242, R243. PHA, PHP push; PLA pulls A and sets Z and N; PLP pulls P but for bits 5 and 4. -/
def Obligations.StackInstructions : Prop :=
  EncodedAs .PHA [(0x48, .imp)] ∧
  EncodedAs .PHP [(0x08, .imp)] ∧
  EncodedAs .PLA [(0x68, .imp)] ∧
  EncodedAs .PLP [(0x28, .imp)] ∧
  ∀ s : State,
    exec .pha s = .next (push s.a { s with pc := s.pc + 1 }) ∧
    exec .php s = .next (push (s.p ||| 0x30) { s with pc := s.pc + 1 }) ∧
    exec .pla s = .next { (pop s).2 with a := (pop s).1, p := setZN (pop s).1 s.p, pc := s.pc + 1 } ∧
    exec .plp s = .next { (pop s).2 with p := ((pop s).1 &&& 0xCF) ||| (s.p &&& 0x30), pc := s.pc + 1 }

/-- R250, R155. JMP ABS goes to its operand; JMP IND to the word at its pointer, with the page wrap. -/
def Obligations.JumpInstructions : Prop :=
  EncodedAs .JMP [(0x4C, .abs), (0x6C, .ind)] ∧
  ∀ (w : Addr) (s : State),
    exec (.jmpAbs w) s = .next { s with pc := w } ∧
    exec (.jmpAbs s.pc) s = .next s ∧
    (∀ q : Addr, q.toNat = w.toNat / 0x100 * 0x100 + (w.toNat + 1) % 0x100 →
      (∀ lo hi, s.peek w = some lo → s.peek q = some hi → exec (.jmpInd w) s = .next { s with pc := word hi lo }) ∧
      (∀ lo t hi u, busRead w (s.advance 3) = .ok (lo, t) → busRead q t = .ok (hi, u) →
        exec (.jmpInd w) s = .next { u with pc := word hi lo }) ∧
      (∀ f, busRead w (s.advance 3) = .error f → exec (.jmpInd w) s = .fault f) ∧
      (∀ lo t, busRead w (s.advance 3) = .ok (lo, t) → (∃ hi u, busRead q t = .ok (hi, u)) ∨
        ∃ f, busRead q t = .error f ∧ exec (.jmpInd w) s = .fault f))

/-- R251, R252. JSR pushes the address of its last byte and jumps; RTS pops it and adds one. -/
def Obligations.SubroutineInstructions : Prop :=
  EncodedAs .JSR [(0x20, .abs)] ∧
  EncodedAs .RTS [(0x60, .imp)] ∧
  ∀ (w : Addr) (s : State),
    exec (.jsr w) s = .next { push (loByte (s.pc + 2)) (push (hiByte (s.pc + 2)) s) with pc := w } ∧
    exec .rts s = .next { (pop (pop s).2).2 with pc := word (pop (pop s).2).1 (pop s).1 + 1 }

/-- R253, R254, R255, R256, R257, R258, R259, R260, R261, R158. The eight branches: PC to the target where the flag condition holds, else past the branch. -/
def Obligations.BranchInstructions : Prop :=
  EncodedAs .BCC [(0x90, .rel)] ∧
  EncodedAs .BCS [(0xB0, .rel)] ∧
  EncodedAs .BEQ [(0xF0, .rel)] ∧
  EncodedAs .BNE [(0xD0, .rel)] ∧
  EncodedAs .BMI [(0x30, .rel)] ∧
  EncodedAs .BPL [(0x10, .rel)] ∧
  EncodedAs .BVC [(0x50, .rel)] ∧
  EncodedAs .BVS [(0x70, .rel)] ∧
  ∀ (r : Byte) (s : State) (i : Instr) (taken : Bool),
    (i = .bcc r ∧ taken = !flag .c s.p ∨ i = .bcs r ∧ taken = flag .c s.p ∨
     i = .beq r ∧ taken = flag .z s.p ∨ i = .bne r ∧ taken = !flag .z s.p ∨
     i = .bmi r ∧ taken = flag .n s.p ∨ i = .bpl r ∧ taken = !flag .n s.p ∨
     i = .bvc r ∧ taken = !flag .v s.p ∨ i = .bvs r ∧ taken = flag .v s.p) →
    i.length = 2 ∧
    ∃ t, exec i s = .next t ∧ t = { s with pc := t.pc } ∧
      (taken = true → (t.pc.toNat : Int) = ((s.pc.toNat : Int) + 2 + r.toInt) % 0x10000) ∧
      (taken = false → t.pc = s.pc + 2)

/-- R270, R271, R272, R273, R274, R275, R276, R277. CLC SEC CLI SEI CLV CLD SED write one flag; NOP only advances PC. -/
def Obligations.FlagInstructionsAndNop : Prop :=
  EncodedAs .CLC [(0x18, .imp)] ∧
  EncodedAs .SEC [(0x38, .imp)] ∧
  EncodedAs .CLI [(0x58, .imp)] ∧
  EncodedAs .SEI [(0x78, .imp)] ∧
  EncodedAs .CLV [(0xB8, .imp)] ∧
  EncodedAs .CLD [(0xD8, .imp)] ∧
  EncodedAs .SED [(0xF8, .imp)] ∧
  EncodedAs .NOP [(0xEA, .imp)] ∧
  ∀ s : State,
    exec .clc s = .next { s with p := s.p &&& 0xFE, pc := s.pc + 1 } ∧
    exec .sec s = .next { s with p := s.p ||| 0x01, pc := s.pc + 1 } ∧
    exec .cli s = .next { s with p := s.p &&& 0xFB, pc := s.pc + 1 } ∧
    exec .sei s = .next { s with p := s.p ||| 0x04, pc := s.pc + 1 } ∧
    exec .clv s = .next { s with p := s.p &&& 0xBF, pc := s.pc + 1 } ∧
    exec .cld s = .next { s with p := s.p &&& 0xF7, pc := s.pc + 1 } ∧
    exec .sed s = .next { s with p := s.p ||| 0x08, pc := s.pc + 1 } ∧
    exec .nop s = .next { s with pc := s.pc + 1 }

/-- R278. BRK saves opc_pc + 2 and P on the stack, sets I and goes to the vector at 0xFFFE. -/
def Obligations.BreakTakesTheTrap : Prop :=
  EncodedAs .BRK [(0x00, .imp)] ∧
  ∀ s : State,
    (∀ lo hi, s.peek 0xFFFE = some lo → s.peek 0xFFFF = some hi →
      exec .brk s = .next { push (s.p ||| 0x30) (push (loByte (s.pc + 2)) (push (hiByte (s.pc + 2)) s)) with p := s.p ||| 0x04, pc := word hi lo }) ∧
    (s.mapper.isNrom = true → ∃ lo hi, s.peek 0xFFFE = some lo ∧ s.peek 0xFFFF = some hi ∧
      exec .brk s = .next { push (s.p ||| 0x30) (push (loByte (s.pc + 2)) (push (hiByte (s.pc + 2)) s)) with p := s.p ||| 0x04, pc := word hi lo }) ∧
    match s.peek 0xFFFE, s.peek 0xFFFF with
    | none, _ => exec .brk s = .fault (.invalidBusAddress 0xFFFE .read
      (push (s.p ||| 0x30) (push (loByte (s.pc + 2)) (push (hiByte (s.pc + 2)) s))).warnings)
    | some _, none => exec .brk s = .fault (.invalidBusAddress 0xFFFF .read
      (push (s.p ||| 0x30) (push (loByte (s.pc + 2)) (push (hiByte (s.pc + 2)) s))).warnings)
    | some _, some _ => ∃ t, exec .brk s = .next t

/-- R279. RTI pops P (but for bits 5 and 4), then PC low byte, then PC high byte. -/
def Obligations.ReturnFromInterruptRestores : Prop :=
  EncodedAs .RTI [(0x40, .imp)] ∧
  ∀ s : State,
    exec .rti s = .next { (pop (pop (pop s).2).2).2 with p := ((pop s).1 &&& 0xCF) ||| (s.p &&& 0x30), pc := word (pop (pop (pop s).2).2).1 (pop (pop s).2).1 }

/-- 60_exceptions.md section 1, 30_encoding.md section 2, notes/assumptions 6, 7. An illegal opcode byte reports IllegalOpcode, moves PC past itself and changes nothing else (answering a next state: model's choice, log 6, 7). -/
def Obligations.IllegalOpcodeIsReported : Prop :=
  (∀ op b1 b2 : Byte, (isIllegalOpcode op = true ↔ instrOf op b1 b2 = .illegal op) ∧
    (isIllegalOpcode op = false → (instrOf op b1 b2).mnemonic ≠ .ILLEGAL)) ∧
  illegalOpcodes.length = 105 ∧
  (∀ op, (Instr.illegal op).mode = none ∧ (Instr.illegal op).length = 1) ∧
  (∀ (op : Byte) (s : State), exec (.illegal op) s = .next { s with pc := s.pc + 1, error := some { opcode := op, address := s.pc } }) ∧
  ∀ (op : Byte) (s : State), isIllegalOpcode op = true → s.peek s.pc = some op →
    step s = .next { s with pc := s.pc + 1, warnings := [], error := some { opcode := op, address := s.pc } }

/-- 95_test_vectors.md S6, 45_control_transfer.md section 1, 46_flags_system.md section 2. RTS undoes JSR and RTI undoes BRK, whatever S was. -/
def Obligations.CallsAndTrapsReturn : Prop :=
  (∀ (w : Addr) (s : State), ∃ t u, exec (.jsr w) s = .next t ∧ exec .rts t = .next u ∧
    u.pc = s.pc + 3 ∧ u.sp = s.sp ∧ u.a = s.a ∧ u.x = s.x ∧ u.y = s.y ∧ u.p = s.p) ∧
  (∀ s t : State, exec .brk s = .next t → ∃ u, exec .rti t = .next u ∧
    u.pc = s.pc + 2 ∧ u.sp = s.sp ∧ u.a = s.a ∧ u.x = s.x ∧ u.y = s.y ∧ u.p = s.p)

/-- R38, R48. No instruction changes a flag its rule does not list. -/
def Obligations.OnlyListedFlagsChange : Prop :=
  ∀ (i : Instr) (s t : State) (f : Flag), exec i s = .next t → f ∉ listedFlags i.mnemonic → flag f t.p = flag f s.p

/-- 10_state.md section 2, 20_memory.md section 4. A, X, Y and S change only under the instructions that write them. -/
def Obligations.OnlyListedRegistersChange : Prop :=
  ∀ (i : Instr) (s t : State), exec i s = .next t →
    (writesA i = false → t.a = s.a) ∧
    (i.mnemonic ∉ writesX → t.x = s.x) ∧
    (i.mnemonic ∉ writesY → t.y = s.y) ∧
    (i.mnemonic ∉ writesS → t.sp = s.sp) ∧
    (i.mnemonic ≠ .TXS →
      t.sp = s.sp - BitVec.ofNat 8 (pushCount i.mnemonic) + BitVec.ofNat 8 (popCount i.mnemonic))

/-- R142. PC after an instruction that does not write it is opc_pc plus its length. -/
def Obligations.ProgramCounterAdvancesByLength : Prop :=
  ∀ (i : Instr) (s t : State), exec i s = .next t →
    i.mnemonic ∉ [.JMP, .JSR, .RTS, .RTI, .BRK] → branchCondition i.mnemonic s.p ≠ some true →
    t.pc.toNat = (s.pc.toNat + i.length) % 0x10000 ∧
    (∀ m, i.mode = some m → i.length = 1 + m.operandBytes) ∧ (i.mode = none → i.length = 1)

/-- 20_memory.md section 3, 40_dispatch_addressing.md section 3. An instruction that neither stores nor pushes leaves every byte as it was. -/
def Obligations.NonStoringInstructionsKeepMemory : Prop :=
  ∀ (i : Instr) (s t : State), exec i s = .next t → i.dest = none → (∀ m, i.target ≠ some (.mem m)) →
    pushCount i.mnemonic = 0 → t.ram = s.ram ∧ t.mapperState = s.mapperState ∧ ∀ a, t.peek a = s.peek a

/-- 20_memory.md section 3, 41_load_store_transfer.md section 2. A store or read-modify-write changes no byte but the one at its effective address. -/
def Obligations.StoresTouchOnlyTheirByte : Prop :=
  ∀ (i : Instr) (m : Addressed) (s t : State), exec i s = .next t → (i.dest = some m ∨ i.target = some (.mem m)) →
    (s.mapper.isNrom = true ∨ (effAddr m s).toNat < 0x8000 → ∀ b, ¬ SameByte (effAddr m s) b → t.peek b = s.peek b) ∧
    (0x2000 ≤ (effAddr m s).toNat → t.ram = s.ram) ∧
    (s.mapper.isNrom = true → 0x2000 ≤ (effAddr m s).toNat → ∀ b, t.peek b = s.peek b) ∧
    (s.mapper.isNrom = true ∨ (effAddr m s).toNat < 0x8000 → t.mapperState = s.mapperState) ∧
    (∀ id len tr, s.mapper = .translated id len tr → 0x8000 ≤ (effAddr m s).toNat →
      ∃ v, t.mapperState = tr.write.eval s.prg len s.mapperState (effAddr m s) v ∧
        (i.mnemonic = .STA → v = s.a) ∧ (i.mnemonic = .STX → v = s.x) ∧ (i.mnemonic = .STY → v = s.y)) ∧
    ((effAddr m s).toNat < 0x2000 →
      (i.mnemonic = .STA → t.peek (effAddr m s) = some s.a) ∧
      (i.mnemonic = .STX → t.peek (effAddr m s) = some s.x) ∧
      (i.mnemonic = .STY → t.peek (effAddr m s) = some s.y))

/-- 20_memory.md section 4, 44_stack.md. PHA, PHP, JSR, BRK change no byte but the stack bytes they push. -/
def Obligations.PushesTouchOnlyTheirStackBytes : Prop :=
  ∀ (i : Instr) (s t : State) (b : Addr), exec i s = .next t → 0 < pushCount i.mnemonic →
    (∀ k, k < pushCount i.mnemonic → ¬ SameByte (stackAddr (s.sp - BitVec.ofNat 8 k)) b) → t.peek b = s.peek b

/-- R305, R306. An instruction reports one StackOverflow per push at S = 0x00 and one StackUnderflow per pop at S = 0xFF. -/
def Obligations.WarningsComeFromStackWraps : Prop :=
  (∀ (i : Instr) (s t : State), exec i s = .next t →
    t.warnings = s.warnings ++ pushWarnings (pushCount i.mnemonic) s.sp ++ popWarnings (popCount i.mnemonic) s.sp) ∧
  pushWarnings 3 0x00 = [.stackOverflow] ∧ pushWarnings 3 0x01 = [.stackOverflow] ∧
  (∀ (v : Byte) (s : State), s.sp = 0x00 → (push v s).sp = 0xFF ∧ (push v s).peek 0x0100 = some v) ∧
  (∀ s : State, s.sp = 0xFF → (pop s).2.sp = 0x00 ∧ s.peek 0x0100 = some (pop s).1)

/-- 10_state.md section 7, 20_memory.md section 2, 60_exceptions.md section 1, notes/assumptions 1, 6. No step changes its configuration or reads an earlier step's outputs: the step is stepWith, which takes the configuration as a parameter. -/
def Obligations.ConfigurationIsNeverWritten : Prop :=
  (∀ s t : State, Reaches s t →
    SameCartridge s t ∧
    (s.mapper.isNrom = true → t.mapperState = s.mapperState ∧ ∀ a : Addr, 0x8000 ≤ a.toNat → t.peek a = s.peek a) ∧
    (∃ l, t.extLog = s.extLog ++ l)) ∧
  ∀ s : State, step s = match stepWith s.parameters s.processor s.busState with
    | .next (r, b, o) => .next (State.ofParts s.parameters r b o)
    | .fault f => .fault f
    | .refused q => .refused q

/-- 60_exceptions.md sections 1 and 2, 20_memory.md section 1. Under the default EXT_REGION an instruction completes unless one of its accesses is unmapped, and then stops at the first. -/
def Obligations.ExecStopsExactlyAtAnUnmappedAccess : Prop :=
  ∀ (i : Instr) (s : State), s.plainMap →
    ((∀ x ∈ accesses i s, ¬ unmapped x.1) → ∃ t, exec i s = .next t) ∧
    (∀ pre a k post, accesses i s = pre ++ (a, k) :: post → (∀ x ∈ pre, ¬ unmapped x.1) → unmapped a →
      exec i s = .fault (.invalidBusAddress a k s.warnings))

/-- R140. A step fetches, decodes and runs the instruction at PC. -/
def Obligations.StepRunsTheDecodedInstruction : Prop :=
  (∀ (s : State) (b0 b1 b2 : Byte) (i : Instr) (rest : List Byte), s.peek s.pc = some b0 →
    (1 ≤ operandCount b0 → s.peek (s.pc + 1) = some b1) → (2 ≤ operandCount b0 → s.peek (s.pc + 2) = some b2) →
    decode [b0, b1, b2] = .ok (i, rest) → step s = exec i { s with warnings := [], error := none }) ∧
  (∀ (s t : State) (i : Instr), fetch { s with warnings := [], error := none } = .ok (i, t) → step s = exec i t) ∧
  (∀ (s : State) (f : Fault), fetch { s with warnings := [], error := none } = .error f → step s = .fault f)

/-- 40_dispatch_addressing.md section 1, 20_memory.md section 5. The fetch makes one bus read per byte of the instruction, in order, and stops at the first that fails. -/
def Obligations.FetchReadsOpcodeThenOperands : Prop :=
  ∀ s : State,
    (∀ f, busRead s.pc s = .error f → fetch s = .error f) ∧
    (∀ op t, busRead s.pc s = .ok (op, t) → operandCount op = 0 → fetch s = .ok (instrOf op 0 0, t)) ∧
    (∀ op t f, busRead s.pc s = .ok (op, t) → 1 ≤ operandCount op → busRead (s.pc + 1) t = .error f → fetch s = .error f) ∧
    (∀ op t b1 u, busRead s.pc s = .ok (op, t) → operandCount op = 1 → busRead (s.pc + 1) t = .ok (b1, u) →
      fetch s = .ok (instrOf op b1 0, u)) ∧
    (∀ op t b1 u f, busRead s.pc s = .ok (op, t) → operandCount op = 2 → busRead (s.pc + 1) t = .ok (b1, u) →
      busRead (s.pc + 2) u = .error f → fetch s = .error f) ∧
    (∀ op t b1 u b2 w, busRead s.pc s = .ok (op, t) → operandCount op = 2 → busRead (s.pc + 1) t = .ok (b1, u) →
      busRead (s.pc + 2) u = .ok (b2, w) → fetch s = .ok (instrOf op b1 b2, w)) ∧
    (∀ i t, fetch s = .ok (i, t) → i.wf = true ∧ t = { s with extLog := t.extLog }) ∧
    (s.plainMap → ¬ unmapped s.pc → ¬ unmapped (s.pc + 1) → ¬ unmapped (s.pc + 2) → ∃ i, fetch s = .ok (i, s))

/-- 20_memory.md section 1, 10_state.md section 7. Every step keeps a state well formed. -/
def Obligations.StepKeepsWellFormedStates : Prop :=
  ∀ s t : State, s.wf → step s = .next t → t.wf

/-- R39. Bits 5 and 4 of P are written by reset only, and nothing a step does depends on them. -/
def Obligations.UnusedStatusBitsAreInert : Prop :=
  (∀ s t : State, step s = .next t → t.p &&& 0x30 = s.p &&& 0x30) ∧
  (∀ (bits : Byte) (s : State),
    step (s.setP (withUnused bits s.p)) = mapNext (fun t => t.setP (withUnused bits t.p)) (step s)) ∧
  (∀ (pReset : Byte) (s t : State), hostReset pReset s = .ok t → t.p = pReset) ∧
  (∀ p : Byte, pushedStatus p &&& 0x30 = 0x30 ∧ pushedStatus p &&& 0xCF = p &&& 0xCF)

/-- R45, R46. D and I are stored bits: only the instructions that set, clear, load or push them touch them. -/
def Obligations.DecimalAndInterruptFlagsAreInert : Prop :=
  (∀ (f : Flag) (on : Bool) (i : Instr) (s : State), (f = .d ∨ f = .i) →
    i.mnemonic ∉ [.PHP, .BRK, .PLP, .RTI] → f ∉ listedFlags i.mnemonic →
    exec i (s.setP (setFlag f on s.p)) = mapNext (fun t => t.setP (setFlag f on t.p)) (exec i s)) ∧
  (∀ (s t : State), (exec .sed s = .next t → flag .d t.p = true) ∧ (exec .cld s = .next t → flag .d t.p = false) ∧
    (exec .sei s = .next t → flag .i t.p = true) ∧ (exec .cli s = .next t → flag .i t.p = false) ∧
    (exec .brk s = .next t → flag .i t.p = true)) ∧
  (∀ (f : Flag) (s t : State), (f = .d ∨ f = .i) → (exec .plp s = .next t ∨ exec .rti s = .next t) →
    ∃ v, s.peek (stackAddr (s.sp + 1)) = some v ∧ flag f t.p = flag f v) ∧
  (∀ (f : Flag) (s t : State), (f = .d ∨ f = .i) → exec .php s = .next t →
    ∃ v, t.peek (stackAddr s.sp) = some v ∧ flag f v = flag f s.p) ∧
  (∀ (f : Flag) (s t : State), (f = .d ∨ f = .i) → exec .brk s = .next t →
    ∃ v, t.peek (stackAddr (s.sp - 2)) = some v ∧ flag f v = flag f s.p)

/-- 60_exceptions.md section 1, 20_memory.md section 1. No step is refused, and under the default EXT_REGION a step stops only with InvalidBusAddress at 0x2000-0x7FFF. -/
def Obligations.StepStopsOnlyAtUnmappedAddresses : Prop :=
  (∀ (s : State) (r : Refusal), step s ≠ .refused r) ∧
  ∀ s t : State, s.plainMap → Reaches s t →
    (∃ u, step t = .next u) ∨ ∃ a k l, step t = .fault (.invalidBusAddress a k l) ∧ unmapped a

/-- 30_encoding.md sections 1 and 2. Decoding the bytes of a well-formed instruction gives it back with the bytes after it. -/
def Obligations.DecodeOfEncodeIsTheInstruction : Prop :=
  ∀ (i : Instr) (rest : List Byte), i.wf = true → decode (encode i ++ rest) = .ok (i, rest)

/-- 30_encoding.md sections 1 and 2. What decodes is well formed and re-encodes to the bytes it came from; only too few bytes do not decode. -/
def Obligations.EncodeOfDecodeIsTheBytes : Prop :=
  (∀ (bytes rest : List Byte) (i : Instr), decode bytes = .ok (i, rest) → i.wf = true ∧ bytes = encode i ++ rest) ∧
  (∀ b0 b1 b2 : Byte, ∃ i rest, decode [b0, b1, b2] = .ok (i, rest))

/-- R119, R111. The opcode byte alone fixes mnemonic, mode and length, and the mode the operand bytes. -/
def Obligations.OpcodeAloneFixesModeAndLength : Prop :=
  (∀ op b1 b2 c1 c2 : Byte, (instrOf op b1 b2).mnemonic = (instrOf op c1 c2).mnemonic ∧
    (instrOf op b1 b2).mode = (instrOf op c1 c2).mode ∧ (instrOf op b1 b2).length = 1 + operandCount op) ∧
  (∀ m : Mode, m.operandBytes = if m ∈ [.imp, .acc] then 0
    else if m ∈ [.abs, .absx, .absy, .ind] then 2 else 1) ∧
  (∀ (bytes rest : List Byte) (i : Instr), decode bytes = .ok (i, rest) → bytes.length = i.length + rest.length)

/-- R3. Exactly 56 mnemonics, 13 modes and 151 documented opcodes. -/
def Obligations.OpcodeMapHasItsCounts : Prop :=
  ((List.range 256).filter (fun n => (instrOf (BitVec.ofNat 8 n) 0 0).mnemonic != .ILLEGAL)).length = 151 ∧
  (((List.range 256).map (fun n => (instrOf (BitVec.ofNat 8 n) 0 0).mnemonic)).eraseDups.filter (· != .ILLEGAL)).length = 56 ∧
  (∀ m : Mnemonic, ∃ op : Byte, ∀ b1 b2 : Byte, (instrOf op b1 b2).mnemonic = m) ∧
  (((List.range 256).filterMap (fun n => (instrOf (BitVec.ofNat 8 n) 0 0).mode)).eraseDups).length = 13

/-- 30_encoding.md sections 2 and 3, 95_test_vectors.md section 2. A few words written out from the spec decode to their instructions. -/
def Obligations.SpecWordsDecode : Prop :=
  decode [0xE8] = .ok (.inx, []) ∧
  decode [0x0A] = .ok (.aslAcc, []) ∧
  decode [0xA9, 0x10] = .ok (.ldaImm 0x10, []) ∧
  decode [0xB6, 0x10] = .ok (.ldxZpy 0x10, []) ∧
  decode [0xB9, 0x34, 0x12] = .ok (.ldaAbsy 0x1234, []) ∧
  decode [0x6C, 0x34, 0x12] = .ok (.jmpInd 0x1234, []) ∧
  decode [0xB1, 0x10, 0xEA] = .ok (.ldaIndy 0x10, [0xEA]) ∧
  decode [0xD0, 0xF8] = .ok (.bne 0xF8, []) ∧
  decode [0x02, 0xEA] = .ok (.illegal 0x02, [0xEA])

/-- 20_memory.md section 1, notes/assumptions 2. Canonical memories that read the same are the same data. -/
def Obligations.MemoryIsEqualByItsBytes : Prop :=
  (∀ m n : Memory, m.wf → n.wf → (∀ k, m.read k = n.read k) → m = n) ∧
  (∀ (m : Memory) (k : Nat), m.wf → m.write k (m.read k) = m)
end

