-- ==== Sys2Proof/Laws/Block.lean ====
section
/-! SUPPORT. The four parts of a state and the state of four parts are inverse to each other, and a step begins by
forgetting the outputs of the one before. -/

namespace Sys2Proof.Machine

@[simp] theorem State.ofParts_parameters (c : Parameters) (r : Processor) (b : BusState) (o : Outputs) :
    (State.ofParts c r b o).parameters = c := rfl
@[simp] theorem State.ofParts_processor (c : Parameters) (r : Processor) (b : BusState) (o : Outputs) :
    (State.ofParts c r b o).processor = r := rfl
@[simp] theorem State.ofParts_busState (c : Parameters) (r : Processor) (b : BusState) (o : Outputs) :
    (State.ofParts c r b o).busState = b := rfl
@[simp] theorem State.ofParts_outputs (c : Parameters) (r : Processor) (b : BusState) (o : Outputs) :
    (State.ofParts c r b o).outputs = o := rfl

/-- A state is its four parts. -/
@[simp] theorem State.ofParts_self (s : State) : State.ofParts s.parameters s.processor s.busState s.outputs = s := rfl

/-- A step begins in the state of three parts, with no outputs yet (R140). -/
theorem State.begin_eq_ofParts (s : State) :
    s.begin = State.ofParts s.parameters s.processor s.busState { warnings := [], error := none } := rfl

/-- A state with the same parameters is its own other three parts beside them. -/
theorem State.ofParts_of_parameters {s t : State} (h : t.parameters = s.parameters) :
    State.ofParts s.parameters t.processor t.busState t.outputs = t := by
  rw [← h, State.ofParts_self]

end Sys2Proof.Machine
end

