-- ==== Sys2Proof/Laws/Memory.lean ====
section
/-! SUPPORT. The laws of memory as data: a read after a write, a write keeps every other key, and the canonical form is
kept by every memory operation. The read laws hold for every list, canonical or not. -/

namespace Sys2Proof.Machine

theorem Memory.read_nil (k : Nat) : Memory.read [] k = Config.unlistedByte := rfl

theorem Memory.read_cons (c : Host.Cell) (m : Memory) (k : Nat) :
    Memory.read (c :: m) k = if c.1 = k then c.2 else Memory.read m k := rfl

theorem Memory.read_erase_same (m : Memory) (k : Nat) : (m.erase k).read k = Config.unlistedByte := by
  induction m with
  | nil => rfl
  | cons c m ih =>
    by_cases h : c.1 = k
    · simpa [Memory.erase, h] using ih
    · simpa [Memory.erase, h, Memory.read_cons] using ih

theorem Memory.read_erase_other (m : Memory) {k j : Nat} (h : j ≠ k) : (m.erase k).read j = m.read j := by
  induction m with
  | nil => rfl
  | cons c m ih =>
    by_cases hc : c.1 = k
    · have hj : c.1 ≠ j := fun e => h (e.symm.trans hc)
      simpa [Memory.erase, hc, Memory.read_cons, Ne.symm h] using ih
    · have ih' : Memory.read (m.filter fun c => c.1 != k) j = Memory.read m j := ih
      simp [Memory.erase, hc, Memory.read_cons, ih']

theorem Memory.read_insert_other (m : Memory) {k j : Nat} (v : Byte) (h : j ≠ k) :
    (m.insert k v).read j = m.read j := by
  induction m with
  | nil => simp [Memory.insert, Memory.read_cons, Ne.symm h, Memory.read_nil]
  | cons c m ih =>
    by_cases hc : k < c.1
    · simp [Memory.insert, hc, Memory.read_cons, Ne.symm h]
    · simp [Memory.insert, hc, Memory.read_cons, ih]

theorem Memory.read_insert_same (m : Memory) (k : Nat) (v : Byte) (h : ∀ c ∈ m, c.1 ≠ k) :
    (m.insert k v).read k = v := by
  induction m with
  | nil => simp [Memory.insert, Memory.read_cons]
  | cons c m ih =>
    by_cases hc : k < c.1
    · simp [Memory.insert, hc, Memory.read_cons]
    · have hne : c.1 ≠ k := h c (by simp)
      simp [Memory.insert, hc, Memory.read_cons, hne, ih fun d hd => h d (by simp [hd])]

theorem Memory.mem_erase {m : Memory} {k : Nat} {c : Host.Cell} : c ∈ m.erase k ↔ c ∈ m ∧ c.1 ≠ k := by
  simp [Memory.erase]

/-- A write is read back. -/
@[simp] theorem Memory.read_write_same (m : Memory) (k : Nat) (v : Byte) : (m.write k v).read k = v := by
  unfold Memory.write
  split
  · next h => rw [Memory.read_erase_same, h]
  · exact Memory.read_insert_same _ _ _ fun c hc => (Memory.mem_erase.mp hc).2

/-- A write leaves every other key alone. -/
theorem Memory.read_write_other (m : Memory) {k j : Nat} (v : Byte) (h : j ≠ k) : (m.write k v).read j = m.read j := by
  unfold Memory.write
  split
  · exact Memory.read_erase_other m h
  · rw [Memory.read_insert_other _ _ h, Memory.read_erase_other m h]

theorem Memory.mem_insert {m : Memory} {k : Nat} {v : Byte} {c : Host.Cell} :
    c ∈ m.insert k v ↔ c = (k, v) ∨ c ∈ m := by
  induction m with
  | nil => simp [Memory.insert]
  | cons d m ih =>
    by_cases h : k < d.1
    · simp [Memory.insert, h]
    · simp [Memory.insert, h, ih, or_left_comm]

/-- What a write can leave in the list: the written cell, or a cell that was there. -/
theorem Memory.mem_write {m : Memory} {k : Nat} {v : Byte} {c : Host.Cell} (h : c ∈ m.write k v) :
    (c = (k, v) ∧ v ≠ Config.unlistedByte) ∨ c ∈ m := by
  unfold Memory.write at h
  split at h
  · exact .inr (Memory.mem_erase.mp h).1
  · next hv =>
    rcases Memory.mem_insert.mp h with rfl | h
    · exact .inl ⟨rfl, hv⟩
    · exact .inr (Memory.mem_erase.mp h).1

theorem Memory.insert_sorted {m : Memory} {k : Nat} {v : Byte} (hm : m.Pairwise fun c d => c.1 < d.1)
    (hk : ∀ c ∈ m, c.1 ≠ k) : (m.insert k v).Pairwise fun c d => c.1 < d.1 := by
  induction m with
  | nil => simp [Memory.insert]
  | cons c m ih =>
    obtain ⟨hc, hm⟩ := List.pairwise_cons.mp hm
    by_cases h : k < c.1
    · simp only [Memory.insert, h, if_true, List.pairwise_cons]
      refine ⟨fun d hd => ?_, hc, hm⟩
      rcases List.mem_cons.mp hd with rfl | hd
      · exact h
      · exact Nat.lt_trans h (hc d hd)
    · simp only [Memory.insert, h, if_false, List.pairwise_cons]
      refine ⟨fun d hd => ?_, ih hm fun d hd => hk d (by simp [hd])⟩
      rcases Memory.mem_insert.mp hd with rfl | hd
      · have := hk c (by simp)
        simp only; omega
      · exact hc d hd

/-- A write keeps the canonical form. -/
theorem Memory.write_wf {m : Memory} (k : Nat) (v : Byte) (h : m.wf) : (m.write k v).wf := by
  refine ⟨?_, fun c hc => ?_⟩
  · unfold Memory.write
    have he : (m.erase k).Pairwise fun c d => c.1 < d.1 := h.1.filter _
    split
    · exact he
    · exact Memory.insert_sorted he fun c hc => (Memory.mem_erase.mp hc).2
  · rcases Memory.mem_write hc with ⟨rfl, hv⟩ | hc
    · exact hv
    · exact h.2 c hc

/-- A write puts no key beyond a bound the list and the written key keep. -/
theorem Memory.write_bound {m : Memory} {k n : Nat} (v : Byte) (h : ∀ c ∈ m, c.1 < n) (hk : k < n) :
    ∀ c ∈ m.write k v, c.1 < n := by
  intro c hc
  rcases Memory.mem_write hc with ⟨rfl, _⟩ | hc
  · exact hk
  · exact h c hc

end Sys2Proof.Machine
end

