-- ==== Sys2Proof/Laws/Boot.lean ====
section
/-! SUPPORT. A byte image as canonical memory: its keys, its form, and the byte each key reads. -/

namespace Sys2Proof.Machine

/-- Every cell of an image has a key of the image and a byte worth listing. -/
theorem imageFrom_cell {k : Nat} {l : List Byte} {c : Host.Cell} (h : c ∈ imageFrom k l) :
    k ≤ c.1 ∧ c.1 < k + l.length ∧ c.2 ≠ Config.unlistedByte := by
  induction l generalizing k with
  | nil => cases h
  | cons v l ih =>
    simp only [imageFrom] at h
    split at h
    · have := ih h
      simp only [List.length_cons]
      exact ⟨by omega, by omega, this.2.2⟩
    · next hv =>
      rcases List.mem_cons.mp h with rfl | h
      · simp [hv]
      · have := ih h
        simp only [List.length_cons]
        exact ⟨by omega, by omega, this.2.2⟩

/-- An image is canonical. -/
theorem imageFrom_canonical (k : Nat) (l : List Byte) : (imageFrom k l).wf := by
  refine ⟨?_, fun c h => (imageFrom_cell h).2.2⟩
  induction l generalizing k with
  | nil => exact List.Pairwise.nil
  | cons v l ih =>
    simp only [imageFrom]
    split
    · exact ih _
    · exact List.pairwise_cons.mpr ⟨fun c h => by have := (imageFrom_cell h).1; omega, ih _⟩

/-- A key below every listed key is unlisted. -/
theorem Memory.read_below {m : Memory} {k : Nat} (h : ∀ c ∈ m, k < c.1) : m.read k = Config.unlistedByte := by
  induction m with
  | nil => rfl
  | cons c m ih =>
    have := h c (by simp)
    rw [Memory.read_cons, if_neg (by omega), ih fun d hd => h d (by simp [hd])]

/-- Each key of an image reads as its byte. -/
theorem imageFrom_read_key {k j : Nat} {l : List Byte} (hj : j < l.length) : (imageFrom k l).read (k + j) = l[j] := by
  induction l generalizing k j with
  | nil => exact absurd hj (Nat.not_lt_zero _)
  | cons v l ih =>
    simp only [imageFrom]
    cases j with
    | zero =>
      split
      · next hv =>
        rw [Memory.read_below fun c h => by have := (imageFrom_cell h).1; omega]
        simp [hv]
      · simp [Memory.read_cons]
    | succ j =>
      have e : k + (j + 1) = k + 1 + j := by omega
      have hi := ih (k := k + 1) (j := j) (by simpa using hj)
      split
      · rw [e, hi]; simp
      · rw [Memory.read_cons, if_neg (by simp), e, hi]; simp

end Sys2Proof.Machine
end

