-- ==== Sys2Proof/Laws/Decode.lean ====
section
/-! SUPPORT. The small laws of the descriptor map: the operand bytes change neither mnemonic nor mode, at most two of them
are read, and the illegal bytes are exactly those the map marks. -/

namespace Sys2Proof

/-- R119: mnemonic and mode come from the opcode byte alone. -/
theorem instrOf_shape_of_opcode (op b1 b2 : Byte) :
    (instrOf op b1 b2).mnemonic = (instrOf op 0 0).mnemonic ∧ (instrOf op b1 b2).mode = (instrOf op 0 0).mode := by
  unfold instrOf
  split
  · unfold opcodeRow0; split <;> exact ⟨rfl, rfl⟩
  · unfold opcodeRow1; split <;> exact ⟨rfl, rfl⟩
  · unfold opcodeRow2; split <;> exact ⟨rfl, rfl⟩
  · unfold opcodeRow3; split <;> exact ⟨rfl, rfl⟩
  · unfold opcodeRow4; split <;> exact ⟨rfl, rfl⟩
  · unfold opcodeRow5; split <;> exact ⟨rfl, rfl⟩
  · unfold opcodeRow6; split <;> exact ⟨rfl, rfl⟩
  · unfold opcodeRow7; split <;> exact ⟨rfl, rfl⟩
  · unfold opcodeRow8; split <;> exact ⟨rfl, rfl⟩
  · unfold opcodeRow9; split <;> exact ⟨rfl, rfl⟩
  · unfold opcodeRowA; split <;> exact ⟨rfl, rfl⟩
  · unfold opcodeRowB; split <;> exact ⟨rfl, rfl⟩
  · unfold opcodeRowC; split <;> exact ⟨rfl, rfl⟩
  · unfold opcodeRowD; split <;> exact ⟨rfl, rfl⟩
  · unfold opcodeRowE; split <;> exact ⟨rfl, rfl⟩
  · unfold opcodeRowF; split <;> exact ⟨rfl, rfl⟩

/-- R111: an instruction has at most two operand bytes. -/
theorem operandCount_le_two (op : Byte) : operandCount op ≤ 2 := by
  unfold operandCount Instr.operandBytes
  split
  · next m _ => cases m <;> decide
  · omega

/-- R110: the operand count of an instruction's opcode is the instruction's own. -/
theorem operandCount_eq (op b1 b2 : Byte) : operandCount op = (instrOf op b1 b2).operandBytes := by
  simp only [operandCount, Instr.operandBytes, (instrOf_shape_of_opcode op b1 b2).2]

/-- R116: the bytes of the illegal set and the dashes of the map are the same bytes. -/
theorem isIllegalOpcode_iff_map (op : Byte) : isIllegalOpcode op = true ↔ instrOf op 0 0 = .illegal op := by
  revert op; decide +kernel

end Sys2Proof
end

