-- ==== Sys2Proof/Laws/State.lean ====
section
/-! SUPPORT. One lemma per field per named update of State, so that no proof unfolds a record update. -/

namespace Sys2Proof.Machine

@[simp] theorem State.setA_a (s : State) (v : Byte) : (s.setA v).a = v := rfl
@[simp] theorem State.setA_x (s : State) (v : Byte) : (s.setA v).x = s.x := rfl
@[simp] theorem State.setA_y (s : State) (v : Byte) : (s.setA v).y = s.y := rfl
@[simp] theorem State.setA_p (s : State) (v : Byte) : (s.setA v).p = s.p := rfl
@[simp] theorem State.setA_sp (s : State) (v : Byte) : (s.setA v).sp = s.sp := rfl
@[simp] theorem State.setA_pc (s : State) (v : Byte) : (s.setA v).pc = s.pc := rfl
@[simp] theorem State.setA_ram (s : State) (v : Byte) : (s.setA v).ram = s.ram := rfl
@[simp] theorem State.setA_prg (s : State) (v : Byte) : (s.setA v).prg = s.prg := rfl
@[simp] theorem State.setA_mapper (s : State) (v : Byte) : (s.setA v).mapper = s.mapper := rfl
@[simp] theorem State.setA_mapperState (s : State) (v : Byte) : (s.setA v).mapperState = s.mapperState := rfl
@[simp] theorem State.setA_ext (s : State) (v : Byte) : (s.setA v).ext = s.ext := rfl
@[simp] theorem State.setA_extLog (s : State) (v : Byte) : (s.setA v).extLog = s.extLog := rfl
@[simp] theorem State.setA_warnings (s : State) (v : Byte) : (s.setA v).warnings = s.warnings := rfl
@[simp] theorem State.setA_error (s : State) (v : Byte) : (s.setA v).error = s.error := rfl

@[simp] theorem State.setX_a (s : State) (v : Byte) : (s.setX v).a = s.a := rfl
@[simp] theorem State.setX_x (s : State) (v : Byte) : (s.setX v).x = v := rfl
@[simp] theorem State.setX_y (s : State) (v : Byte) : (s.setX v).y = s.y := rfl
@[simp] theorem State.setX_p (s : State) (v : Byte) : (s.setX v).p = s.p := rfl
@[simp] theorem State.setX_sp (s : State) (v : Byte) : (s.setX v).sp = s.sp := rfl
@[simp] theorem State.setX_pc (s : State) (v : Byte) : (s.setX v).pc = s.pc := rfl
@[simp] theorem State.setX_ram (s : State) (v : Byte) : (s.setX v).ram = s.ram := rfl
@[simp] theorem State.setX_prg (s : State) (v : Byte) : (s.setX v).prg = s.prg := rfl
@[simp] theorem State.setX_mapper (s : State) (v : Byte) : (s.setX v).mapper = s.mapper := rfl
@[simp] theorem State.setX_mapperState (s : State) (v : Byte) : (s.setX v).mapperState = s.mapperState := rfl
@[simp] theorem State.setX_ext (s : State) (v : Byte) : (s.setX v).ext = s.ext := rfl
@[simp] theorem State.setX_extLog (s : State) (v : Byte) : (s.setX v).extLog = s.extLog := rfl
@[simp] theorem State.setX_warnings (s : State) (v : Byte) : (s.setX v).warnings = s.warnings := rfl
@[simp] theorem State.setX_error (s : State) (v : Byte) : (s.setX v).error = s.error := rfl

@[simp] theorem State.setY_a (s : State) (v : Byte) : (s.setY v).a = s.a := rfl
@[simp] theorem State.setY_x (s : State) (v : Byte) : (s.setY v).x = s.x := rfl
@[simp] theorem State.setY_y (s : State) (v : Byte) : (s.setY v).y = v := rfl
@[simp] theorem State.setY_p (s : State) (v : Byte) : (s.setY v).p = s.p := rfl
@[simp] theorem State.setY_sp (s : State) (v : Byte) : (s.setY v).sp = s.sp := rfl
@[simp] theorem State.setY_pc (s : State) (v : Byte) : (s.setY v).pc = s.pc := rfl
@[simp] theorem State.setY_ram (s : State) (v : Byte) : (s.setY v).ram = s.ram := rfl
@[simp] theorem State.setY_prg (s : State) (v : Byte) : (s.setY v).prg = s.prg := rfl
@[simp] theorem State.setY_mapper (s : State) (v : Byte) : (s.setY v).mapper = s.mapper := rfl
@[simp] theorem State.setY_mapperState (s : State) (v : Byte) : (s.setY v).mapperState = s.mapperState := rfl
@[simp] theorem State.setY_ext (s : State) (v : Byte) : (s.setY v).ext = s.ext := rfl
@[simp] theorem State.setY_extLog (s : State) (v : Byte) : (s.setY v).extLog = s.extLog := rfl
@[simp] theorem State.setY_warnings (s : State) (v : Byte) : (s.setY v).warnings = s.warnings := rfl
@[simp] theorem State.setY_error (s : State) (v : Byte) : (s.setY v).error = s.error := rfl

@[simp] theorem State.setP_a (s : State) (v : Byte) : (s.setP v).a = s.a := rfl
@[simp] theorem State.setP_x (s : State) (v : Byte) : (s.setP v).x = s.x := rfl
@[simp] theorem State.setP_y (s : State) (v : Byte) : (s.setP v).y = s.y := rfl
@[simp] theorem State.setP_p (s : State) (v : Byte) : (s.setP v).p = v := rfl
@[simp] theorem State.setP_sp (s : State) (v : Byte) : (s.setP v).sp = s.sp := rfl
@[simp] theorem State.setP_pc (s : State) (v : Byte) : (s.setP v).pc = s.pc := rfl
@[simp] theorem State.setP_ram (s : State) (v : Byte) : (s.setP v).ram = s.ram := rfl
@[simp] theorem State.setP_prg (s : State) (v : Byte) : (s.setP v).prg = s.prg := rfl
@[simp] theorem State.setP_mapper (s : State) (v : Byte) : (s.setP v).mapper = s.mapper := rfl
@[simp] theorem State.setP_mapperState (s : State) (v : Byte) : (s.setP v).mapperState = s.mapperState := rfl
@[simp] theorem State.setP_ext (s : State) (v : Byte) : (s.setP v).ext = s.ext := rfl
@[simp] theorem State.setP_extLog (s : State) (v : Byte) : (s.setP v).extLog = s.extLog := rfl
@[simp] theorem State.setP_warnings (s : State) (v : Byte) : (s.setP v).warnings = s.warnings := rfl
@[simp] theorem State.setP_error (s : State) (v : Byte) : (s.setP v).error = s.error := rfl

@[simp] theorem State.setSp_a (s : State) (v : Byte) : (s.setSp v).a = s.a := rfl
@[simp] theorem State.setSp_x (s : State) (v : Byte) : (s.setSp v).x = s.x := rfl
@[simp] theorem State.setSp_y (s : State) (v : Byte) : (s.setSp v).y = s.y := rfl
@[simp] theorem State.setSp_p (s : State) (v : Byte) : (s.setSp v).p = s.p := rfl
@[simp] theorem State.setSp_sp (s : State) (v : Byte) : (s.setSp v).sp = v := rfl
@[simp] theorem State.setSp_pc (s : State) (v : Byte) : (s.setSp v).pc = s.pc := rfl
@[simp] theorem State.setSp_ram (s : State) (v : Byte) : (s.setSp v).ram = s.ram := rfl
@[simp] theorem State.setSp_prg (s : State) (v : Byte) : (s.setSp v).prg = s.prg := rfl
@[simp] theorem State.setSp_mapper (s : State) (v : Byte) : (s.setSp v).mapper = s.mapper := rfl
@[simp] theorem State.setSp_mapperState (s : State) (v : Byte) : (s.setSp v).mapperState = s.mapperState := rfl
@[simp] theorem State.setSp_ext (s : State) (v : Byte) : (s.setSp v).ext = s.ext := rfl
@[simp] theorem State.setSp_extLog (s : State) (v : Byte) : (s.setSp v).extLog = s.extLog := rfl
@[simp] theorem State.setSp_warnings (s : State) (v : Byte) : (s.setSp v).warnings = s.warnings := rfl
@[simp] theorem State.setSp_error (s : State) (v : Byte) : (s.setSp v).error = s.error := rfl

@[simp] theorem State.setPc_a (s : State) (v : Addr) : (s.setPc v).a = s.a := rfl
@[simp] theorem State.setPc_x (s : State) (v : Addr) : (s.setPc v).x = s.x := rfl
@[simp] theorem State.setPc_y (s : State) (v : Addr) : (s.setPc v).y = s.y := rfl
@[simp] theorem State.setPc_p (s : State) (v : Addr) : (s.setPc v).p = s.p := rfl
@[simp] theorem State.setPc_sp (s : State) (v : Addr) : (s.setPc v).sp = s.sp := rfl
@[simp] theorem State.setPc_pc (s : State) (v : Addr) : (s.setPc v).pc = v := rfl
@[simp] theorem State.setPc_ram (s : State) (v : Addr) : (s.setPc v).ram = s.ram := rfl
@[simp] theorem State.setPc_prg (s : State) (v : Addr) : (s.setPc v).prg = s.prg := rfl
@[simp] theorem State.setPc_mapper (s : State) (v : Addr) : (s.setPc v).mapper = s.mapper := rfl
@[simp] theorem State.setPc_mapperState (s : State) (v : Addr) : (s.setPc v).mapperState = s.mapperState := rfl
@[simp] theorem State.setPc_ext (s : State) (v : Addr) : (s.setPc v).ext = s.ext := rfl
@[simp] theorem State.setPc_extLog (s : State) (v : Addr) : (s.setPc v).extLog = s.extLog := rfl
@[simp] theorem State.setPc_warnings (s : State) (v : Addr) : (s.setPc v).warnings = s.warnings := rfl
@[simp] theorem State.setPc_error (s : State) (v : Addr) : (s.setPc v).error = s.error := rfl

@[simp] theorem State.setRam_a (s : State) (v : Memory) : (s.setRam v).a = s.a := rfl
@[simp] theorem State.setRam_x (s : State) (v : Memory) : (s.setRam v).x = s.x := rfl
@[simp] theorem State.setRam_y (s : State) (v : Memory) : (s.setRam v).y = s.y := rfl
@[simp] theorem State.setRam_p (s : State) (v : Memory) : (s.setRam v).p = s.p := rfl
@[simp] theorem State.setRam_sp (s : State) (v : Memory) : (s.setRam v).sp = s.sp := rfl
@[simp] theorem State.setRam_pc (s : State) (v : Memory) : (s.setRam v).pc = s.pc := rfl
@[simp] theorem State.setRam_ram (s : State) (v : Memory) : (s.setRam v).ram = v := rfl
@[simp] theorem State.setRam_prg (s : State) (v : Memory) : (s.setRam v).prg = s.prg := rfl
@[simp] theorem State.setRam_mapper (s : State) (v : Memory) : (s.setRam v).mapper = s.mapper := rfl
@[simp] theorem State.setRam_mapperState (s : State) (v : Memory) : (s.setRam v).mapperState = s.mapperState := rfl
@[simp] theorem State.setRam_ext (s : State) (v : Memory) : (s.setRam v).ext = s.ext := rfl
@[simp] theorem State.setRam_extLog (s : State) (v : Memory) : (s.setRam v).extLog = s.extLog := rfl
@[simp] theorem State.setRam_warnings (s : State) (v : Memory) : (s.setRam v).warnings = s.warnings := rfl
@[simp] theorem State.setRam_error (s : State) (v : Memory) : (s.setRam v).error = s.error := rfl

@[simp] theorem State.setPrg_a (s : State) (v : Memory) : (s.setPrg v).a = s.a := rfl
@[simp] theorem State.setPrg_x (s : State) (v : Memory) : (s.setPrg v).x = s.x := rfl
@[simp] theorem State.setPrg_y (s : State) (v : Memory) : (s.setPrg v).y = s.y := rfl
@[simp] theorem State.setPrg_p (s : State) (v : Memory) : (s.setPrg v).p = s.p := rfl
@[simp] theorem State.setPrg_sp (s : State) (v : Memory) : (s.setPrg v).sp = s.sp := rfl
@[simp] theorem State.setPrg_pc (s : State) (v : Memory) : (s.setPrg v).pc = s.pc := rfl
@[simp] theorem State.setPrg_ram (s : State) (v : Memory) : (s.setPrg v).ram = s.ram := rfl
@[simp] theorem State.setPrg_prg (s : State) (v : Memory) : (s.setPrg v).prg = v := rfl
@[simp] theorem State.setPrg_mapper (s : State) (v : Memory) : (s.setPrg v).mapper = s.mapper := rfl
@[simp] theorem State.setPrg_mapperState (s : State) (v : Memory) : (s.setPrg v).mapperState = s.mapperState := rfl
@[simp] theorem State.setPrg_ext (s : State) (v : Memory) : (s.setPrg v).ext = s.ext := rfl
@[simp] theorem State.setPrg_extLog (s : State) (v : Memory) : (s.setPrg v).extLog = s.extLog := rfl
@[simp] theorem State.setPrg_warnings (s : State) (v : Memory) : (s.setPrg v).warnings = s.warnings := rfl
@[simp] theorem State.setPrg_error (s : State) (v : Memory) : (s.setPrg v).error = s.error := rfl

@[simp] theorem State.setMapperState_a (s : State) (v : Nat) : (s.setMapperState v).a = s.a := rfl
@[simp] theorem State.setMapperState_x (s : State) (v : Nat) : (s.setMapperState v).x = s.x := rfl
@[simp] theorem State.setMapperState_y (s : State) (v : Nat) : (s.setMapperState v).y = s.y := rfl
@[simp] theorem State.setMapperState_p (s : State) (v : Nat) : (s.setMapperState v).p = s.p := rfl
@[simp] theorem State.setMapperState_sp (s : State) (v : Nat) : (s.setMapperState v).sp = s.sp := rfl
@[simp] theorem State.setMapperState_pc (s : State) (v : Nat) : (s.setMapperState v).pc = s.pc := rfl
@[simp] theorem State.setMapperState_ram (s : State) (v : Nat) : (s.setMapperState v).ram = s.ram := rfl
@[simp] theorem State.setMapperState_prg (s : State) (v : Nat) : (s.setMapperState v).prg = s.prg := rfl
@[simp] theorem State.setMapperState_mapper (s : State) (v : Nat) : (s.setMapperState v).mapper = s.mapper := rfl
@[simp] theorem State.setMapperState_mapperState (s : State) (v : Nat) : (s.setMapperState v).mapperState = v := rfl
@[simp] theorem State.setMapperState_ext (s : State) (v : Nat) : (s.setMapperState v).ext = s.ext := rfl
@[simp] theorem State.setMapperState_extLog (s : State) (v : Nat) : (s.setMapperState v).extLog = s.extLog := rfl
@[simp] theorem State.setMapperState_warnings (s : State) (v : Nat) : (s.setMapperState v).warnings = s.warnings := rfl
@[simp] theorem State.setMapperState_error (s : State) (v : Nat) : (s.setMapperState v).error = s.error := rfl

@[simp] theorem State.setExtLog_a (s : State) (v : List ExtAccess) : (s.setExtLog v).a = s.a := rfl
@[simp] theorem State.setExtLog_x (s : State) (v : List ExtAccess) : (s.setExtLog v).x = s.x := rfl
@[simp] theorem State.setExtLog_y (s : State) (v : List ExtAccess) : (s.setExtLog v).y = s.y := rfl
@[simp] theorem State.setExtLog_p (s : State) (v : List ExtAccess) : (s.setExtLog v).p = s.p := rfl
@[simp] theorem State.setExtLog_sp (s : State) (v : List ExtAccess) : (s.setExtLog v).sp = s.sp := rfl
@[simp] theorem State.setExtLog_pc (s : State) (v : List ExtAccess) : (s.setExtLog v).pc = s.pc := rfl
@[simp] theorem State.setExtLog_ram (s : State) (v : List ExtAccess) : (s.setExtLog v).ram = s.ram := rfl
@[simp] theorem State.setExtLog_prg (s : State) (v : List ExtAccess) : (s.setExtLog v).prg = s.prg := rfl
@[simp] theorem State.setExtLog_mapper (s : State) (v : List ExtAccess) : (s.setExtLog v).mapper = s.mapper := rfl
@[simp] theorem State.setExtLog_mapperState (s : State) (v : List ExtAccess) : (s.setExtLog v).mapperState = s.mapperState := rfl
@[simp] theorem State.setExtLog_ext (s : State) (v : List ExtAccess) : (s.setExtLog v).ext = s.ext := rfl
@[simp] theorem State.setExtLog_extLog (s : State) (v : List ExtAccess) : (s.setExtLog v).extLog = v := rfl
@[simp] theorem State.setExtLog_warnings (s : State) (v : List ExtAccess) : (s.setExtLog v).warnings = s.warnings := rfl
@[simp] theorem State.setExtLog_error (s : State) (v : List ExtAccess) : (s.setExtLog v).error = s.error := rfl

@[simp] theorem State.setWarnings_a (s : State) (v : List Warning) : (s.setWarnings v).a = s.a := rfl
@[simp] theorem State.setWarnings_x (s : State) (v : List Warning) : (s.setWarnings v).x = s.x := rfl
@[simp] theorem State.setWarnings_y (s : State) (v : List Warning) : (s.setWarnings v).y = s.y := rfl
@[simp] theorem State.setWarnings_p (s : State) (v : List Warning) : (s.setWarnings v).p = s.p := rfl
@[simp] theorem State.setWarnings_sp (s : State) (v : List Warning) : (s.setWarnings v).sp = s.sp := rfl
@[simp] theorem State.setWarnings_pc (s : State) (v : List Warning) : (s.setWarnings v).pc = s.pc := rfl
@[simp] theorem State.setWarnings_ram (s : State) (v : List Warning) : (s.setWarnings v).ram = s.ram := rfl
@[simp] theorem State.setWarnings_prg (s : State) (v : List Warning) : (s.setWarnings v).prg = s.prg := rfl
@[simp] theorem State.setWarnings_mapper (s : State) (v : List Warning) : (s.setWarnings v).mapper = s.mapper := rfl
@[simp] theorem State.setWarnings_mapperState (s : State) (v : List Warning) : (s.setWarnings v).mapperState = s.mapperState := rfl
@[simp] theorem State.setWarnings_ext (s : State) (v : List Warning) : (s.setWarnings v).ext = s.ext := rfl
@[simp] theorem State.setWarnings_extLog (s : State) (v : List Warning) : (s.setWarnings v).extLog = s.extLog := rfl
@[simp] theorem State.setWarnings_warnings (s : State) (v : List Warning) : (s.setWarnings v).warnings = v := rfl
@[simp] theorem State.setWarnings_error (s : State) (v : List Warning) : (s.setWarnings v).error = s.error := rfl

@[simp] theorem State.setError_a (s : State) (v : Option IllegalOpcode) : (s.setError v).a = s.a := rfl
@[simp] theorem State.setError_x (s : State) (v : Option IllegalOpcode) : (s.setError v).x = s.x := rfl
@[simp] theorem State.setError_y (s : State) (v : Option IllegalOpcode) : (s.setError v).y = s.y := rfl
@[simp] theorem State.setError_p (s : State) (v : Option IllegalOpcode) : (s.setError v).p = s.p := rfl
@[simp] theorem State.setError_sp (s : State) (v : Option IllegalOpcode) : (s.setError v).sp = s.sp := rfl
@[simp] theorem State.setError_pc (s : State) (v : Option IllegalOpcode) : (s.setError v).pc = s.pc := rfl
@[simp] theorem State.setError_ram (s : State) (v : Option IllegalOpcode) : (s.setError v).ram = s.ram := rfl
@[simp] theorem State.setError_prg (s : State) (v : Option IllegalOpcode) : (s.setError v).prg = s.prg := rfl
@[simp] theorem State.setError_mapper (s : State) (v : Option IllegalOpcode) : (s.setError v).mapper = s.mapper := rfl
@[simp] theorem State.setError_mapperState (s : State) (v : Option IllegalOpcode) : (s.setError v).mapperState = s.mapperState := rfl
@[simp] theorem State.setError_ext (s : State) (v : Option IllegalOpcode) : (s.setError v).ext = s.ext := rfl
@[simp] theorem State.setError_extLog (s : State) (v : Option IllegalOpcode) : (s.setError v).extLog = s.extLog := rfl
@[simp] theorem State.setError_warnings (s : State) (v : Option IllegalOpcode) : (s.setError v).warnings = s.warnings := rfl
@[simp] theorem State.setError_error (s : State) (v : Option IllegalOpcode) : (s.setError v).error = v := rfl

@[simp] theorem State.advance_a (s : State) (n : Nat) : (s.advance n).a = s.a := rfl
@[simp] theorem State.advance_x (s : State) (n : Nat) : (s.advance n).x = s.x := rfl
@[simp] theorem State.advance_y (s : State) (n : Nat) : (s.advance n).y = s.y := rfl
@[simp] theorem State.advance_p (s : State) (n : Nat) : (s.advance n).p = s.p := rfl
@[simp] theorem State.advance_sp (s : State) (n : Nat) : (s.advance n).sp = s.sp := rfl
@[simp] theorem State.advance_pc (s : State) (n : Nat) : (s.advance n).pc = s.pc + BitVec.ofNat 16 n := rfl
@[simp] theorem State.advance_ram (s : State) (n : Nat) : (s.advance n).ram = s.ram := rfl
@[simp] theorem State.advance_prg (s : State) (n : Nat) : (s.advance n).prg = s.prg := rfl
@[simp] theorem State.advance_mapper (s : State) (n : Nat) : (s.advance n).mapper = s.mapper := rfl
@[simp] theorem State.advance_mapperState (s : State) (n : Nat) : (s.advance n).mapperState = s.mapperState := rfl
@[simp] theorem State.advance_ext (s : State) (n : Nat) : (s.advance n).ext = s.ext := rfl
@[simp] theorem State.advance_extLog (s : State) (n : Nat) : (s.advance n).extLog = s.extLog := rfl
@[simp] theorem State.advance_warnings (s : State) (n : Nat) : (s.advance n).warnings = s.warnings := rfl
@[simp] theorem State.advance_error (s : State) (n : Nat) : (s.advance n).error = s.error := rfl

@[simp] theorem State.begin_a (s : State) : s.begin.a = s.a := rfl
@[simp] theorem State.begin_x (s : State) : s.begin.x = s.x := rfl
@[simp] theorem State.begin_y (s : State) : s.begin.y = s.y := rfl
@[simp] theorem State.begin_p (s : State) : s.begin.p = s.p := rfl
@[simp] theorem State.begin_sp (s : State) : s.begin.sp = s.sp := rfl
@[simp] theorem State.begin_pc (s : State) : s.begin.pc = s.pc := rfl
@[simp] theorem State.begin_ram (s : State) : s.begin.ram = s.ram := rfl
@[simp] theorem State.begin_prg (s : State) : s.begin.prg = s.prg := rfl
@[simp] theorem State.begin_mapper (s : State) : s.begin.mapper = s.mapper := rfl
@[simp] theorem State.begin_mapperState (s : State) : s.begin.mapperState = s.mapperState := rfl
@[simp] theorem State.begin_ext (s : State) : s.begin.ext = s.ext := rfl
@[simp] theorem State.begin_extLog (s : State) : s.begin.extLog = s.extLog := rfl
@[simp] theorem State.begin_warnings (s : State) : s.begin.warnings = [] := rfl
@[simp] theorem State.begin_error (s : State) : s.begin.error = none := rfl

@[simp] theorem State.report_a (s : State) (w : Warning) : (s.report w).a = s.a := rfl
@[simp] theorem State.report_x (s : State) (w : Warning) : (s.report w).x = s.x := rfl
@[simp] theorem State.report_y (s : State) (w : Warning) : (s.report w).y = s.y := rfl
@[simp] theorem State.report_p (s : State) (w : Warning) : (s.report w).p = s.p := rfl
@[simp] theorem State.report_sp (s : State) (w : Warning) : (s.report w).sp = s.sp := rfl
@[simp] theorem State.report_pc (s : State) (w : Warning) : (s.report w).pc = s.pc := rfl
@[simp] theorem State.report_ram (s : State) (w : Warning) : (s.report w).ram = s.ram := rfl
@[simp] theorem State.report_prg (s : State) (w : Warning) : (s.report w).prg = s.prg := rfl
@[simp] theorem State.report_mapper (s : State) (w : Warning) : (s.report w).mapper = s.mapper := rfl
@[simp] theorem State.report_mapperState (s : State) (w : Warning) : (s.report w).mapperState = s.mapperState := rfl
@[simp] theorem State.report_ext (s : State) (w : Warning) : (s.report w).ext = s.ext := rfl
@[simp] theorem State.report_extLog (s : State) (w : Warning) : (s.report w).extLog = s.extLog := rfl
@[simp] theorem State.report_warnings (s : State) (w : Warning) : (s.report w).warnings = s.warnings ++ [w] := rfl
@[simp] theorem State.report_error (s : State) (w : Warning) : (s.report w).error = s.error := rfl

/-- Writing a log back changes nothing. -/
@[simp] theorem State.setExtLog_self (s : State) : s.setExtLog s.extLog = s := rfl

/-- The last of two logs written stands. -/
@[simp] theorem State.setExtLog_setExtLog (s : State) (l l' : List ExtAccess) :
    (s.setExtLog l).setExtLog l' = s.setExtLog l' := rfl

end Sys2Proof.Machine
end

