-- ==== Sys2Proof/Laws/Ops.lean ====
section
/-! SUPPORT. For each shared operation, one lemma that says everything it can do; proofs cite these and unfold nothing. -/

namespace Sys2Proof.Machine

/-! The memory bus. -/

theorem region_ram {a : Addr} (h : a.toNat < 0x2000) : region a = .ram (a.toNat % 0x800) := by
  simp [region, Config.ramTop, Config.ramBytes, h]

theorem region_ext {a : Addr} (h : 0x2000 ≤ a.toNat) (h' : a.toNat < 0x8000) : region a = .ext := by
  simp [region, Config.ramTop, Config.cartBase, Nat.not_lt.mpr h, h']

theorem region_cart {a : Addr} (h : 0x8000 ≤ a.toNat) : region a = .cart := by
  have : ¬ a.toNat < 0x2000 := by omega
  simp [region, Config.ramTop, Config.cartBase, this, Nat.not_lt.mpr h]

/-- The three cases of R72. -/
theorem region_cases (a : Addr) :
    (a.toNat < 0x2000 ∧ region a = .ram (a.toNat % 0x800)) ∨
    ((0x2000 ≤ a.toNat ∧ a.toNat < 0x8000) ∧ region a = .ext) ∨
    (0x8000 ≤ a.toNat ∧ region a = .cart) := by
  by_cases h : a.toNat < 0x2000
  · exact .inl ⟨h, region_ram h⟩
  · by_cases h' : a.toNat < 0x8000
    · exact .inr (.inl ⟨⟨by omega, h'⟩, region_ext (by omega) h'⟩)
    · exact .inr (.inr ⟨by omega, region_cart (by omega)⟩)

/-- A RAM index lies in RAM. -/
theorem region_index_lt {a : Addr} {k : Nat} (h : region a = .ram k) : k < Config.ramBytes := by
  rcases region_cases a with ⟨_, e⟩ | ⟨_, e⟩ | ⟨_, e⟩ <;> rw [e] at h
  · cases h
    exact Nat.mod_lt _ (by decide)
  · cases h
  · cases h

/-- R73: a read of internal RAM. -/
theorem busRead_inRam {a : Addr} (s : State) (h : a.toNat < 0x2000) :
    busRead a s = .ok (s.ram.read (a.toNat % 0x800), s) := by
  simp [busRead, region_ram h]

/-- R73: a write of internal RAM. -/
theorem busWrite_inRam {a : Addr} (v : Byte) (s : State) (h : a.toNat < 0x2000) :
    busWrite a v s = .ok (s.setRam (s.ram.write (a.toNat % 0x800) v)) := by
  simp [busWrite, region_ram h]

/-- R73: the readable bytes of internal RAM. -/
theorem peek_inRam {a : Addr} (s : State) (h : a.toNat < 0x2000) : s.peek a = some (s.ram.read (a.toNat % 0x800)) := by
  simp [State.peek, region_ram h]

/-- R79, R81: the readable bytes of the cartridge window. -/
theorem peek_inCart {a : Addr} (s : State) (h : 0x8000 ≤ a.toNat) : s.peek a = s.cartRead a := by
  simp [State.peek, region_cart h]

/-- The readable bytes depend on memory and the mapper alone. -/
theorem peek_of_fields {s t : State} (h1 : t.ram = s.ram) (h2 : t.prg = s.prg) (h3 : t.mapper = s.mapper)
    (h4 : t.mapperState = s.mapperState) (a : Addr) : t.peek a = s.peek a := by
  simp [State.peek, State.cartRead, h1, h2, h3, h4]

/-- A bus read that succeeds changes at most the history of a supplied EXT_REGION device. -/
theorem busRead_ok {a : Addr} {s t : State} {v : Byte} (h : busRead a s = .ok (v, t)) :
    (s.peek a = some v ∧ t = s) ∨
    (region a = .ext ∧ s.ext = .device ∧ Config.extRead s.extLog a = some v ∧ t = s.setExtLog (s.extLog ++ [.read a])) := by
  unfold busRead at h
  unfold State.peek
  split at h
  · next k e => cases h; exact .inl ⟨by simp, rfl⟩
  · next e =>
    split at h
    · next w hw => cases h; exact .inl ⟨by simp [hw], rfl⟩
    · cases h
  · next e =>
    split at h
    · cases h
    · next hd =>
      split at h
      · next w hw => cases h; exact .inr ⟨e, hd, hw, rfl⟩
      · cases h

/-- A bus read that succeeds, as one equation for the state after it. -/
theorem busRead_state {a : Addr} {s t : State} {v : Byte} (h : busRead a s = .ok (v, t)) : t = s.setExtLog t.extLog := by
  rcases busRead_ok h with ⟨_, rfl⟩ | ⟨_, _, _, rfl⟩ <;> rfl

/-- A readable byte is what a bus read gives, and the read has no side effect (R88). -/
theorem busRead_of_peek {a : Addr} {s : State} {v : Byte} (h : s.peek a = some v) : busRead a s = .ok (v, s) := by
  unfold State.peek at h
  unfold busRead
  split at h
  · cases h; simp
  · simp [h]
  · cases h

/-- A bus read that fails raises InvalidBusAddress on its own address, never one of internal RAM. -/
theorem busRead_error {a : Addr} {s : State} {f : Fault} (h : busRead a s = .error f) :
    f = s.invalid a .read ∧ 0x2000 ≤ a.toNat := by
  rcases region_cases a with ⟨_, e⟩ | ⟨hr, e⟩ | ⟨hr, e⟩ <;> simp only [busRead, e] at h
  · cases h
  · refine ⟨?_, hr.1⟩
    split at h
    · cases h; rfl
    · split at h <;> cases h; rfl
  · refine ⟨?_, by omega⟩
    split at h <;> cases h; rfl

/-- R81: only a vector byte can be left unmapped. -/
theorem leavesUnmapped_vector {t : MapperTranslate} {a : Addr} (h : t.leavesUnmapped a = true) : 0xFFFC ≤ a.toNat := by
  obtain ⟨k, -, hk⟩ := List.any_eq_true.mp h
  have : a.toNat = Config.vectorBase + k.val := by simpa using hk
  simp only [Config.vectorBase] at this
  omega

/-- R79, R81: below the vectors every mapper answers every read of the cartridge window. -/
theorem cartRead_total (s : State) {a : Addr} (h : a.toNat < 0xFFFC) : ∃ v, s.cartRead a = some v := by
  unfold State.cartRead
  split
  · exact ⟨_, rfl⟩
  · next t _ =>
    rw [if_neg fun hg => by have := leavesUnmapped_vector (t := t) hg; omega]
    exact ⟨_, rfl⟩

/-- NROM answers every read of the cartridge window. -/
theorem cartRead_nrom {s : State} {size : PrgSize} (h : s.mapper = .nrom size) (a : Addr) :
    s.cartRead a = some (s.prg.read (nromOffset size a)) := by
  simp [State.cartRead, h]

/-- NROM discards a write (R80). -/
theorem cartWrite_nrom {s : State} {size : PrgSize} (h : s.mapper = .nrom size) (a : Addr) (v : Byte) :
    s.cartWrite a v = s := by
  simp [State.cartWrite, h]

/-- A translated mapper takes its next state from its write function (R81). -/
theorem cartWrite_translated {s : State} {id : Byte} {len : Nat} {tr : MapperTranslate}
    (h : s.mapper = .translated id len tr) (a : Addr) (v : Byte) :
    s.cartWrite a v = s.setMapperState (tr.writeState s.prg len s.mapperState a v) := by
  simp [State.cartWrite, h]

/-- A write of the cartridge window changes at most the mapper's state. -/
theorem cartWrite_state (s : State) (a : Addr) (v : Byte) :
    s.cartWrite a v = s.setMapperState (s.cartWrite a v).mapperState := by
  unfold State.cartWrite
  split <;> rfl

/-- R80, R81: a write of the cartridge window cannot fail. -/
theorem busWrite_inCart {a : Addr} (v : Byte) (s : State) (h : 0x8000 ≤ a.toNat) :
    busWrite a v s = .ok (s.cartWrite a v) := by
  simp [busWrite, region_cart h]

/-- A bus write that succeeds: one RAM byte, the mapper's answer to a write, or one more entry of a device's history. -/
theorem busWrite_ok {a : Addr} {s t : State} {v : Byte} (h : busWrite a v s = .ok t) :
    (∃ k, region a = .ram k ∧ t = s.setRam (s.ram.write k v)) ∨
    (region a = .cart ∧ t = s.cartWrite a v) ∨
    (region a = .ext ∧ s.ext = .device ∧ t = s.setExtLog (s.extLog ++ [.write a v])) := by
  unfold busWrite at h
  split at h
  · next k e => cases h; exact .inl ⟨k, e, rfl⟩
  · next e => cases h; exact .inr (.inl ⟨e, rfl⟩)
  · next e =>
    split at h
    · cases h
    · next hd =>
      split at h
      · cases h; exact .inr (.inr ⟨e, hd, rfl⟩)
      · cases h

/-- A bus write that succeeds, as one equation for the state after it. -/
theorem busWrite_state {a : Addr} {s t : State} {v : Byte} (h : busWrite a v s = .ok t) :
    t = ((s.setRam t.ram).setMapperState t.mapperState).setExtLog t.extLog := by
  rcases busWrite_ok h with ⟨_, _, rfl⟩ | ⟨_, rfl⟩ | ⟨_, _, rfl⟩
  · rfl
  · rw [cartWrite_state]; rfl
  · rfl

/-- A bus write that fails raises InvalidBusAddress on its own address, one of EXT_REGION (R76, R83). -/
theorem busWrite_error {a : Addr} {s : State} {v : Byte} {f : Fault} (h : busWrite a v s = .error f) :
    f = s.invalid a .write ∧ 0x2000 ≤ a.toNat ∧ a.toNat < 0x8000 := by
  rcases region_cases a with ⟨_, e⟩ | ⟨hr, e⟩ | ⟨_, e⟩ <;> simp only [busWrite, e] at h
  · cases h
  · refine ⟨?_, hr⟩
    split at h
    · cases h; rfl
    · split at h <;> cases h; rfl
  · cases h

/-- Two reads that succeed, low byte first. -/
theorem readWord_ok {lo hi w : Addr} {s t : State} (h : readWord lo hi s = .ok (w, t)) :
    ∃ l u b, busRead lo s = .ok (l, u) ∧ busRead hi u = .ok (b, t) ∧ w = word b l := by
  unfold readWord at h
  split at h
  · cases h
  · next l u e =>
    split at h
    · cases h
    · next b t' e' => cases h; exact ⟨l, u, b, e, e', rfl⟩

/-- Two reads that succeed change at most the history of a supplied device. -/
theorem readWord_state {lo hi w : Addr} {s t : State} (h : readWord lo hi s = .ok (w, t)) : t = s.setExtLog t.extLog := by
  obtain ⟨l, u, b, h1, h2, -⟩ := readWord_ok h
  have e2 := busRead_state h2
  rw [busRead_state h1, State.setExtLog_setExtLog] at e2
  exact e2

/-- Two readable bytes as a word. -/
theorem readWord_of_peek {lo hi : Addr} {s : State} {l b : Byte} (hl : s.peek lo = some l) (hb : s.peek hi = some b) :
    readWord lo hi s = .ok (word b l, s) := by
  simp [readWord, busRead_of_peek hl, busRead_of_peek hb]

/-! The stack engine. -/

/-- The stack page is internal RAM. -/
theorem stackIndex_lt (sp : Byte) : stackIndex sp < Config.ramBytes := by
  simp only [stackIndex, Config.stackPage, Config.ramBytes]; omega

/-- What a push does, whole (R90). -/
theorem push_eq (v : Byte) (s : State) : push v s = { s with
    ram := s.ram.write (stackIndex s.sp) v
    sp := s.sp - 1
    warnings := s.warnings ++ if s.sp = 0x00 then [.stackOverflow] else [] } := by
  unfold push
  split <;> simp [State.report, State.setRam, State.setSp, State.setWarnings]

/-- What a pop does, whole (R91). -/
theorem pop_eq (s : State) : pop s = (s.ram.read (stackIndex (s.sp + 1)), { s with
    sp := s.sp + 1
    warnings := s.warnings ++ if s.sp = 0xFF then [.stackUnderflow] else [] }) := by
  unfold pop
  split <;> simp [State.report, State.setSp, State.setWarnings]

/-- What pushing a return address does, whole (R85). -/
theorem pushWord_eq (w : Addr) (s : State) : pushWord w s = { s with
    ram := (s.ram.write (stackIndex s.sp) (hiByte w)).write (stackIndex (s.sp - 1)) (loByte w)
    sp := s.sp - 1 - 1
    warnings := (s.warnings ++ if s.sp = 0x00 then [.stackOverflow] else []) ++
      if s.sp - 1 = 0x00 then [.stackOverflow] else [] } := by
  simp only [pushWord, push_eq]

/-- What popping a return address does, whole (R252, R279). -/
theorem popWord_eq (s : State) : popWord s =
    (word (s.ram.read (stackIndex (s.sp + 1 + 1))) (s.ram.read (stackIndex (s.sp + 1))), { s with
      sp := s.sp + 1 + 1
      warnings := (s.warnings ++ if s.sp = 0xFF then [.stackUnderflow] else []) ++
        if s.sp + 1 = 0xFF then [.stackUnderflow] else [] }) := by
  simp only [popWord, pop_eq]

/-- What pulling the status does, whole (R243). -/
theorem pullStatus_eq (s : State) : pullStatus s = { s with
    p := pulledStatus (s.ram.read (stackIndex (s.sp + 1))) s.p
    sp := s.sp + 1
    warnings := s.warnings ++ if s.sp = 0xFF then [.stackUnderflow] else [] } := by
  simp only [pullStatus, pop_eq, State.setP]

/-! Trap entry and return. -/

/-- The state in which a trap reads its vector: three bytes pushed and I set (R278). -/
def trapFrame (ret : Addr) (s : State) : State :=
  let s2 := push (pushedStatus s.p) (pushWord ret s)
  s2.setP (setFlag .i true s.p)

/-- What taking the trap does when the vector can be read. -/
theorem takeTrap_ok {ret : Addr} {s t : State} (h : takeTrap ret s = .ok t) :
    ∃ w u, read16 Config.brkVector (trapFrame ret s) = .ok (w, u) ∧ t = u.setPc w := by
  have e : ((push (pushedStatus (pushWord ret s).p) (pushWord ret s)).setP
      (setFlag .i true (push (pushedStatus (pushWord ret s).p) (pushWord ret s)).p)) = trapFrame ret s := by
    simp only [trapFrame, push_eq, pushWord_eq, State.setP]
  unfold takeTrap at h
  simp only [e] at h
  split at h
  · cases h
  · next w u hw => cases h; exact ⟨w, u, hw, rfl⟩

/-- What the trap return does, whole (R279). -/
theorem returnFromTrap_eq (s : State) : returnFromTrap s = ((popWord (pullStatus s)).2).setPc (popWord (pullStatus s)).1 := rfl

/-! Fetching. -/

/-- A fetch that succeeds changes at most the history of a supplied device. -/
theorem fetch_state {s t : State} {i : Instr} (h : fetch s = .ok (i, t)) : t = s.setExtLog t.extLog := by
  unfold fetch at h
  split at h
  · cases h
  · next op u e =>
    have eu := busRead_state e
    split at h
    · cases h; exact eu
    · split at h
      · cases h
      · next b1 u2 e2 =>
        cases h
        have := busRead_state e2
        rwa [eu, State.setExtLog_setExtLog] at this
    · split at h
      · cases h
      · next b1 u2 e2 =>
        split at h
        · cases h
        · next b2 u3 e3 =>
          cases h
          have h2 := busRead_state e2
          have h3 := busRead_state e3
          rw [eu, State.setExtLog_setExtLog] at h2
          rwa [h2, State.setExtLog_setExtLog] at h3

/-! The shared shapes of a meaning. -/

/-- An instruction of class read that answers a next state (R160). -/
theorem withSource_next {src : Source} {s t : State} {k : Byte → State → State} (h : withSource src s k = .next t) :
    ∃ v u, readSource src (s.advance (sourceLength src)) = .ok (v, u) ∧ t = k v u := by
  unfold withSource at h
  split at h
  · next v u e => cases h; exact ⟨v, u, e, rfl⟩
  · cases h

/-- Reading an operand changes at most the history of a supplied device. -/
theorem readSource_state {src : Source} {s t : State} {v : Byte} (h : readSource src s = .ok (v, t)) :
    t = s.setExtLog t.extLog := by
  cases src with
  | imm w => cases h; rfl
  | mem m => exact busRead_state h

/-- An instruction of class write that answers a next state (R160). -/
theorem storeAt_next {m : Addressed} {v : Byte} {s t : State} (h : storeAt m v s = .next t) :
    busWrite (effAddr m s) v (s.advance (addressedLength m)) = .ok t := by
  unfold storeAt answer at h
  split at h
  · next e => cases h; exact e
  · cases h

/-- A read-modify-write in memory that answers a next state (R160): one read, one write to the same address. -/
theorem modifyAt_next {op : Byte → Byte → Modified} {m : Addressed} {s t : State} (h : modifyAt op m s = .next t) :
    ∃ v u w, busRead (effAddr m s) (s.advance (addressedLength m)) = .ok (v, u) ∧
      busWrite (effAddr m s) (op v u.p).result u = .ok w ∧ t = w.setP (op v u.p).status := by
  unfold modifyAt at h
  split at h
  · cases h
  · next v u e =>
    split at h
    · cases h
    · next w e' => cases h; exact ⟨v, u, w, e, e', rfl⟩

end Sys2Proof.Machine
end

