-- ==== Sys2Proof/Laws/Exec.lean ====
section
/-! SUPPORT. The shapes of exec: an instruction with an operand is one of three shared shapes, told by its mnemonic. A proof
over all instructions takes these three and then only the instructions without an operand one by one. -/

namespace Sys2Proof.Machine

/-- What an instruction of class read makes of its operand value and the state its read left. -/
def readEffect (m : Mnemonic) (v : Byte) (t : State) : State :=
  match m with
  | .LDA => (t.setA v).setP (setZN v t.p)
  | .LDX => (t.setX v).setP (setZN v t.p)
  | .LDY => (t.setY v).setP (setZN v t.p)
  | .ADC => (t.setA (addCore t.a v (flag .c t.p)).result).setP (setSum (addCore t.a v (flag .c t.p)) t.p)
  | .SBC => (t.setA (subCore t.a v (flag .c t.p)).result).setP (setSum (subCore t.a v (flag .c t.p)) t.p)
  | .AND => (t.setA (t.a &&& v)).setP (setZN (t.a &&& v) t.p)
  | .ORA => (t.setA (t.a ||| v)).setP (setZN (t.a ||| v) t.p)
  | .EOR => (t.setA (t.a ^^^ v)).setP (setZN (t.a ^^^ v) t.p)
  | .BIT => t.setP (bitTest t.a v t.p)
  | .CMP => t.setP (compareFlags t.a v t.p)
  | .CPX => t.setP (compareFlags t.x v t.p)
  | .CPY => t.setP (compareFlags t.y v t.p)
  | _ => t

/-- The register an instruction of class write stores. -/
def storedByte (m : Mnemonic) (s : State) : Byte :=
  match m with
  | .STA => s.a
  | .STX => s.x
  | .STY => s.y
  | _ => 0

/-- What a read-modify-write instruction makes of its value. -/
def modifyOp : Mnemonic → Byte → Byte → Modified
  | .ASL => shiftLeft
  | .LSR => shiftRight
  | .ROL => rotateLeft
  | .ROR => rotateRight
  | .INC => increment
  | .DEC => decrement
  | _ => fun v p => { result := v, status := p }

/-- Every instruction of class read. -/
theorem exec_source {i : Instr} {src : Source} (h : i.source = some src) (s : State) :
    exec i s = withSource src s (readEffect i.mnemonic) ∧ i.length = sourceLength src ∧
      i.mnemonic ∈ [.LDA, .LDX, .LDY, .ADC, .SBC, .AND, .ORA, .EOR, .BIT, .CMP, .CPX, .CPY] := by
  cases i <;> first | (cases h; exact ⟨rfl, rfl, by simp [Instr.mnemonic]⟩) | cases h

/-- Every instruction of class write. -/
theorem exec_dest {i : Instr} {m : Addressed} (h : i.dest = some m) (s : State) :
    exec i s = storeAt m (storedByte i.mnemonic s) s ∧ i.length = addressedLength m ∧
      i.mnemonic ∈ [.STA, .STX, .STY] := by
  cases i <;> first | (cases h; exact ⟨rfl, rfl, by simp [Instr.mnemonic]⟩) | cases h

/-- Every shift, rotate, INC and DEC, in the accumulator or in memory. -/
theorem exec_target {i : Instr} {t : Target} (h : i.target = some t) (s : State) :
    exec i s = modifyTarget (modifyOp i.mnemonic) t s ∧ i.length = targetLength t ∧
      i.mnemonic ∈ [.ASL, .LSR, .ROL, .ROR, .INC, .DEC] := by
  cases i <;> first | (cases h; exact ⟨rfl, rfl, by simp [Instr.mnemonic]⟩) | cases h

/-- What exec can do when it answers a next state: one of the four operand shapes, or an instruction without an operand. -/
theorem exec_next {i : Instr} {s t : State} (h : exec i s = .next t) :
    (∃ src v u, i.source = some src ∧ readSource src (s.advance i.length) = .ok (v, u) ∧ t = readEffect i.mnemonic v u) ∨
    (∃ m, i.dest = some m ∧ busWrite (effAddr m s) (storedByte i.mnemonic s) (s.advance i.length) = .ok t) ∨
    (∃ m v u w, i.target = some (.mem m) ∧ busRead (effAddr m s) (s.advance i.length) = .ok (v, u) ∧
      busWrite (effAddr m s) (modifyOp i.mnemonic v u.p).result u = .ok w ∧
      t = w.setP (modifyOp i.mnemonic v u.p).status) ∨
    (i.target = some .acc ∧
      t = ((s.advance 1).setA (modifyOp i.mnemonic s.a s.p).result).setP (modifyOp i.mnemonic s.a s.p).status) ∨
    (i.source = none ∧ i.dest = none ∧ i.target = none) := by
  cases hs : i.source with
  | some src =>
    obtain ⟨e, hl, -⟩ := exec_source hs s
    rw [e] at h
    obtain ⟨v, u, hr, ht⟩ := withSource_next h
    exact .inl ⟨src, v, u, rfl, hl ▸ hr, ht⟩
  | none =>
    refine .inr ?_
    cases hd : i.dest with
    | some m =>
      obtain ⟨e, hl, -⟩ := exec_dest hd s
      rw [e] at h
      exact .inl ⟨m, rfl, hl ▸ storeAt_next h⟩
    | none =>
      refine .inr ?_
      cases ht : i.target with
      | none => exact .inr (.inr ⟨rfl, rfl, rfl⟩)
      | some tg =>
        obtain ⟨e, hl, -⟩ := exec_target ht s
        rw [e] at h
        cases tg with
        | acc => cases h; exact .inr (.inl ⟨rfl, rfl⟩)
        | mem m =>
          obtain ⟨v, u, w, h1, h2, h3⟩ := modifyAt_next h
          exact .inl ⟨m, v, u, w, rfl, hl ▸ h1, h2, h3⟩

/-- What the read effects leave alone, but for A, X, Y and P. -/
theorem readEffect_state (m : Mnemonic) (v : Byte) (t : State) : readEffect m v t =
    { t with a := (readEffect m v t).a, x := (readEffect m v t).x, y := (readEffect m v t).y, p := (readEffect m v t).p } := by
  cases m <;> rfl

end Sys2Proof.Machine
end

