-- ==== Sys2Proof/Laws/Flags.lean ====
section
/-! SUPPORT. The small laws of the status register: a flag written is read back, every other bit stays, and what each flag
computation leaves in each flag. -/

namespace Sys2Proof.Machine

/-- R37: the bit number of a flag. -/
def Flag.bit : Flag → Nat
  | .n => 7
  | .v => 6
  | .u => 5
  | .b => 4
  | .d => 3
  | .i => 2
  | .z => 1
  | .c => 0

theorem Flag.bit_lt (f : Flag) : f.bit < 8 := by cases f <;> decide

theorem Flag.bit_inj {f g : Flag} : f.bit = g.bit ↔ f = g := by revert f g; intro f g; cases f <;> cases g <;> decide

theorem Flag.mask_bit (f : Flag) (i : Nat) : f.mask.getLsbD i = decide (i = f.bit) := by
  by_cases h : i < 8
  · revert f
    have : i = 0 ∨ i = 1 ∨ i = 2 ∨ i = 3 ∨ i = 4 ∨ i = 5 ∨ i = 6 ∨ i = 7 := by omega
    rcases this with rfl | rfl | rfl | rfl | rfl | rfl | rfl | rfl <;> intro f <;> cases f <;> decide
  · have := f.bit_lt
    rw [BitVec.getLsbD_of_ge _ _ (by omega)]
    simp; omega

/-- A flag is one bit of P. -/
theorem flag_eq_bit (f : Flag) (p : Byte) : flag f p = p.getLsbD f.bit := by
  revert p
  cases f <;> decide

/-- Every bit of P after one flag was written. -/
theorem setFlag_bit (f : Flag) (on : Bool) (p : Byte) (i : Nat) (hi : i < 8) :
    (setFlag f on p).getLsbD i = if i = f.bit then on else p.getLsbD i := by
  cases on <;> by_cases h : i = f.bit <;>
    simp only [setFlag, Bool.false_eq_true, if_true, if_false, BitVec.getLsbD_or, BitVec.getLsbD_and, BitVec.getLsbD_not,
      Flag.mask_bit, h] <;>
    simp [hi, f.bit_lt]

/-- Reading the written flag. -/
@[simp] theorem flag_setFlag_same (f : Flag) (on : Bool) (p : Byte) : flag f (setFlag f on p) = on := by
  rw [flag_eq_bit, setFlag_bit _ _ _ _ f.bit_lt, if_pos rfl]

/-- Reading another flag. -/
theorem flag_setFlag_other {f g : Flag} (h : g ≠ f) (on : Bool) (p : Byte) : flag g (setFlag f on p) = flag g p := by
  rw [flag_eq_bit, setFlag_bit _ _ _ _ g.bit_lt, if_neg (fun e => h (Flag.bit_inj.mp e)), ← flag_eq_bit]

/-- Reading any flag after one was written. -/
theorem flag_setFlag (f g : Flag) (on : Bool) (p : Byte) :
    flag g (setFlag f on p) = if g = f then on else flag g p := by
  split
  · next h => rw [h, flag_setFlag_same]
  · next h => exact flag_setFlag_other h on p

/-- What SetZN leaves in each flag. -/
theorem flag_setZN (g : Flag) (r p : Byte) :
    flag g (setZN r p) = if g = .n then r.msb else if g = .z then r == 0 else flag g p := by
  cases g <;> simp [setZN, flag_setFlag]

/-- What ADC and SBC leave in each flag. -/
theorem flag_setSum (g : Flag) (r : Sum) (p : Byte) :
    flag g (setSum r p) = if g = .n then r.result.msb else if g = .z then r.result == 0
      else if g = .v then r.overflow else if g = .c then r.carry else flag g p := by
  cases g <;> simp [setSum, flag_setZN, flag_setFlag]

/-- What a compare leaves in each flag. -/
theorem flag_compareFlags (g : Flag) (reg m p : Byte) :
    flag g (compareFlags reg m p) = if g = .n then (reg - m).msb else if g = .z then reg == m
      else if g = .c then decide (m.toNat ≤ reg.toNat) else flag g p := by
  cases g <;> simp [compareFlags, flag_setFlag]

/-- What BIT leaves in each flag. -/
theorem flag_bitTest (g : Flag) (a m p : Byte) :
    flag g (bitTest a m p) = if g = .v then m.getLsbD 6 else if g = .n then m.getLsbD 7
      else if g = .z then a &&& m == 0 else flag g p := by
  cases g <;> simp [bitTest, flag_setFlag]

/-- A pulled status takes bits 5 and 4 from P and every other bit from the pulled byte. -/
theorem flag_pulledStatus (g : Flag) (v p : Byte) :
    flag g (pulledStatus v p) = if g = .u ∨ g = .b then flag g p else flag g v := by
  have h : ∀ m a b : Byte, (a ||| b) &&& m = (a &&& m) ||| (b &&& m) := fun m a b => by
    ext i; simp [Bool.and_or_distrib_right]
  cases g <;> simp only [flag, pulledStatus, Flag.mask, h, BitVec.and_assoc] <;> simp

/-- Two status bytes with the same flags are the same byte. -/
theorem status_ext {p q : Byte} (h : ∀ f, flag f p = flag f q) : p = q := by
  have bit : ∀ f : Flag, p.getLsbD f.bit = q.getLsbD f.bit := fun f => by simpa [flag_eq_bit] using h f
  refine BitVec.eq_of_getLsbD_eq fun i hi => ?_
  have : i = 0 ∨ i = 1 ∨ i = 2 ∨ i = 3 ∨ i = 4 ∨ i = 5 ∨ i = 6 ∨ i = 7 := by omega
  rcases this with rfl | rfl | rfl | rfl | rfl | rfl | rfl | rfl
  · exact bit .c
  · exact bit .z
  · exact bit .i
  · exact bit .d
  · exact bit .b
  · exact bit .u
  · exact bit .v
  · exact bit .n

end Sys2Proof.Machine
end

