-- ==== Sys2Proof/Laws/Mapper.lean ====
section
/-! SUPPORT. A MAPPER_TRANSLATE supplied as terms is no narrower than one supplied as functions: whatever a function
answers at any finite list of points (all that a run of finitely many steps can ask), some term answers there too. -/

namespace Sys2Proof.Machine

/-- One point of a MAPPER_TRANSLATE function: the mapper's state, the address and the byte. -/
abbrev MapperPoint := Nat × Addr × Byte

/-- A term that takes one value where two terms are equal and another elsewhere. -/
def MapperTerm.ifEq (l r same other : MapperTerm) : MapperTerm := .ifLt l r other (.ifLt r l other same)

theorem MapperTerm.eval_ifEq (prg : Memory) (len st : Nat) (a : Addr) (v : Byte) (l r same other : MapperTerm) :
    (MapperTerm.ifEq l r same other).eval prg len st a v =
      if l.eval prg len st a v = r.eval prg len st a v then same.eval prg len st a v else other.eval prg len st a v := by
  simp only [MapperTerm.ifEq, MapperTerm.eval]
  by_cases h : l.eval prg len st a v < r.eval prg len st a v
  · rw [if_pos h, if_neg (by omega)]
  · by_cases h' : r.eval prg len st a v < l.eval prg len st a v
    · rw [if_neg h, if_pos h', if_neg (by omega)]
    · rw [if_neg h, if_neg h', if_pos (by omega)]

/-- A point as one number. -/
def MapperPoint.key (q : MapperPoint) : Nat := q.1 * 0x1000000 + q.2.1.toNat * 0x100 + q.2.2.toNat

theorem MapperPoint.key_injective {q r : MapperPoint} (h : MapperPoint.key q = MapperPoint.key r) : q = r := by
  obtain ⟨st, a, v⟩ := q
  obtain ⟨st', a', v'⟩ := r
  simp only [MapperPoint.key] at h
  have h1 : st = st' := by omega
  have h2 : a = a' := BitVec.eq_of_toNat_eq (by omega)
  have h3 : v = v' := BitVec.eq_of_toNat_eq (by omega)
  rw [h1, h2, h3]

/-- The term of a finite table: a function's value at each listed point. -/
def MapperTerm.table (f : MapperPoint → Nat) : List MapperPoint → MapperTerm
  | [] => .lit 0
  | q :: rest =>
    .ifEq (.add (.add (.mul .state (.lit 0x1000000)) (.mul .address (.lit 0x100))) .value) (.lit (MapperPoint.key q))
      (.lit (f q)) (MapperTerm.table f rest)

/-- A table's term answers what the function answers at every listed point. -/
theorem MapperTerm.eval_table (f : MapperPoint → Nat) (prg : Memory) (len : Nat) {points : List MapperPoint}
    {q : MapperPoint} (h : q ∈ points) : (MapperTerm.table f points).eval prg len q.1 q.2.1 q.2.2 = f q := by
  induction points with
  | nil => cases h
  | cons c rest ih =>
    simp only [MapperTerm.table, MapperTerm.eval_ifEq, MapperTerm.eval]
    by_cases e : MapperPoint.key q = MapperPoint.key c
    · exact (if_pos e).trans (congrArg f (MapperPoint.key_injective e).symm)
    · have hr := ih ((List.mem_cons.mp h).resolve_left fun hq => e (hq ▸ rfl))
      exact (if_neg e).trans hr

/-- A MAPPER_TRANSLATE given by two functions, followed at the listed points. -/
def MapperTranslate.ofFunctions (read : MapperPoint → Byte) (write : MapperPoint → Nat) (initial : Nat)
    (points : List MapperPoint) : MapperTranslate where
  read := .table (fun q => (read q).toNat) points
  write := .table write points
  initial := initial
  vectorGaps := []

/-- It reads and writes as the two functions do at every listed point. -/
theorem MapperTranslate.ofFunctions_agrees (read : MapperPoint → Byte) (write : MapperPoint → Nat) (initial : Nat)
    (prg : Memory) (len : Nat) {points : List MapperPoint} :
    (∀ st a, (st, a, 0x00) ∈ points →
      (MapperTranslate.ofFunctions read write initial points).readByte prg len st a = read (st, a, 0x00)) ∧
    ∀ st a v, (st, a, v) ∈ points →
      (MapperTranslate.ofFunctions read write initial points).writeState prg len st a v = write (st, a, v) := by
  refine ⟨fun st a h => ?_, fun st a v h => MapperTerm.eval_table write prg len h⟩
  have := MapperTerm.eval_table (fun q => (read q).toNat) prg len h
  simp only [MapperTranslate.readByte, MapperTranslate.ofFunctions]
  rw [this, BitVec.ofNat_toNat, BitVec.setWidth_eq]

end Sys2Proof.Machine
end

