-- ==== Sys2Proof/Laws/PerInstr.lean ====
section
/-! SUPPORT. The per-instruction family EncodedLength (30_encoding.md R110-R112): the encoder gives as many bytes as the
descriptor's length, which is 1, 2 or 3, and the first of them alone tells the decoder how many follow. -/

namespace Sys2Proof.Laws.EncodedLength

/-- R110, R111: the encoding has the instruction's length, and its opcode byte asks for the bytes after it. -/
def Statement (i : Instr) : Prop :=
  (encode i).length = i.length ∧ 1 ≤ i.length ∧ i.length ≤ 3 ∧
  (i.wf = true → ∀ op ∈ (encode i).head?, i.length = 1 + operandCount op)

/-- What is left of the family to show of each instruction. -/
theorem statement_of {i : Instr} (h : (encode i).length = i.length)
    (hop : i.wf = true → ∀ op ∈ (encode i).head?, i.length = 1 + operandCount op) : Statement i := by
  refine ⟨h, ?_, ?_, hop⟩ <;> simp only [Instr.length, Instr.operandBytes]
  · omega
  · cases i.mode with
    | none => decide
    | some m => cases m <;> decide

theorem ldaImm (v : Byte) : Statement (.ldaImm v) :=
  statement_of rfl fun _ _ h => by cases h; rfl
theorem ldaZp (z : Byte) : Statement (.ldaZp z) :=
  statement_of rfl fun _ _ h => by cases h; rfl
theorem ldaZpx (z : Byte) : Statement (.ldaZpx z) :=
  statement_of rfl fun _ _ h => by cases h; rfl
theorem ldaAbs (w : Addr) : Statement (.ldaAbs w) :=
  statement_of rfl fun _ _ h => by cases h; rfl
theorem ldaAbsx (w : Addr) : Statement (.ldaAbsx w) :=
  statement_of rfl fun _ _ h => by cases h; rfl
theorem ldaAbsy (w : Addr) : Statement (.ldaAbsy w) :=
  statement_of rfl fun _ _ h => by cases h; rfl
theorem ldaIndx (z : Byte) : Statement (.ldaIndx z) :=
  statement_of rfl fun _ _ h => by cases h; rfl
theorem ldaIndy (z : Byte) : Statement (.ldaIndy z) :=
  statement_of rfl fun _ _ h => by cases h; rfl
theorem ldxImm (v : Byte) : Statement (.ldxImm v) :=
  statement_of rfl fun _ _ h => by cases h; rfl
theorem ldxZp (z : Byte) : Statement (.ldxZp z) :=
  statement_of rfl fun _ _ h => by cases h; rfl
theorem ldxZpy (z : Byte) : Statement (.ldxZpy z) :=
  statement_of rfl fun _ _ h => by cases h; rfl
theorem ldxAbs (w : Addr) : Statement (.ldxAbs w) :=
  statement_of rfl fun _ _ h => by cases h; rfl
theorem ldxAbsy (w : Addr) : Statement (.ldxAbsy w) :=
  statement_of rfl fun _ _ h => by cases h; rfl
theorem ldyImm (v : Byte) : Statement (.ldyImm v) :=
  statement_of rfl fun _ _ h => by cases h; rfl
theorem ldyZp (z : Byte) : Statement (.ldyZp z) :=
  statement_of rfl fun _ _ h => by cases h; rfl
theorem ldyZpx (z : Byte) : Statement (.ldyZpx z) :=
  statement_of rfl fun _ _ h => by cases h; rfl
theorem ldyAbs (w : Addr) : Statement (.ldyAbs w) :=
  statement_of rfl fun _ _ h => by cases h; rfl
theorem ldyAbsx (w : Addr) : Statement (.ldyAbsx w) :=
  statement_of rfl fun _ _ h => by cases h; rfl
theorem staZp (z : Byte) : Statement (.staZp z) :=
  statement_of rfl fun _ _ h => by cases h; rfl
theorem staZpx (z : Byte) : Statement (.staZpx z) :=
  statement_of rfl fun _ _ h => by cases h; rfl
theorem staAbs (w : Addr) : Statement (.staAbs w) :=
  statement_of rfl fun _ _ h => by cases h; rfl
theorem staAbsx (w : Addr) : Statement (.staAbsx w) :=
  statement_of rfl fun _ _ h => by cases h; rfl
theorem staAbsy (w : Addr) : Statement (.staAbsy w) :=
  statement_of rfl fun _ _ h => by cases h; rfl
theorem staIndx (z : Byte) : Statement (.staIndx z) :=
  statement_of rfl fun _ _ h => by cases h; rfl
theorem staIndy (z : Byte) : Statement (.staIndy z) :=
  statement_of rfl fun _ _ h => by cases h; rfl
theorem stxZp (z : Byte) : Statement (.stxZp z) :=
  statement_of rfl fun _ _ h => by cases h; rfl
theorem stxZpy (z : Byte) : Statement (.stxZpy z) :=
  statement_of rfl fun _ _ h => by cases h; rfl
theorem stxAbs (w : Addr) : Statement (.stxAbs w) :=
  statement_of rfl fun _ _ h => by cases h; rfl
theorem styZp (z : Byte) : Statement (.styZp z) :=
  statement_of rfl fun _ _ h => by cases h; rfl
theorem styZpx (z : Byte) : Statement (.styZpx z) :=
  statement_of rfl fun _ _ h => by cases h; rfl
theorem styAbs (w : Addr) : Statement (.styAbs w) :=
  statement_of rfl fun _ _ h => by cases h; rfl
theorem tax : Statement (.tax) :=
  statement_of rfl fun _ _ h => by cases h; rfl
theorem tay : Statement (.tay) :=
  statement_of rfl fun _ _ h => by cases h; rfl
theorem txa : Statement (.txa) :=
  statement_of rfl fun _ _ h => by cases h; rfl
theorem tya : Statement (.tya) :=
  statement_of rfl fun _ _ h => by cases h; rfl
theorem tsx : Statement (.tsx) :=
  statement_of rfl fun _ _ h => by cases h; rfl
theorem txs : Statement (.txs) :=
  statement_of rfl fun _ _ h => by cases h; rfl
theorem adcImm (v : Byte) : Statement (.adcImm v) :=
  statement_of rfl fun _ _ h => by cases h; rfl
theorem adcZp (z : Byte) : Statement (.adcZp z) :=
  statement_of rfl fun _ _ h => by cases h; rfl
theorem adcZpx (z : Byte) : Statement (.adcZpx z) :=
  statement_of rfl fun _ _ h => by cases h; rfl
theorem adcAbs (w : Addr) : Statement (.adcAbs w) :=
  statement_of rfl fun _ _ h => by cases h; rfl
theorem adcAbsx (w : Addr) : Statement (.adcAbsx w) :=
  statement_of rfl fun _ _ h => by cases h; rfl
theorem adcAbsy (w : Addr) : Statement (.adcAbsy w) :=
  statement_of rfl fun _ _ h => by cases h; rfl
theorem adcIndx (z : Byte) : Statement (.adcIndx z) :=
  statement_of rfl fun _ _ h => by cases h; rfl
theorem adcIndy (z : Byte) : Statement (.adcIndy z) :=
  statement_of rfl fun _ _ h => by cases h; rfl
theorem sbcImm (v : Byte) : Statement (.sbcImm v) :=
  statement_of rfl fun _ _ h => by cases h; rfl
theorem sbcZp (z : Byte) : Statement (.sbcZp z) :=
  statement_of rfl fun _ _ h => by cases h; rfl
theorem sbcZpx (z : Byte) : Statement (.sbcZpx z) :=
  statement_of rfl fun _ _ h => by cases h; rfl
theorem sbcAbs (w : Addr) : Statement (.sbcAbs w) :=
  statement_of rfl fun _ _ h => by cases h; rfl
theorem sbcAbsx (w : Addr) : Statement (.sbcAbsx w) :=
  statement_of rfl fun _ _ h => by cases h; rfl
theorem sbcAbsy (w : Addr) : Statement (.sbcAbsy w) :=
  statement_of rfl fun _ _ h => by cases h; rfl
theorem sbcIndx (z : Byte) : Statement (.sbcIndx z) :=
  statement_of rfl fun _ _ h => by cases h; rfl
theorem sbcIndy (z : Byte) : Statement (.sbcIndy z) :=
  statement_of rfl fun _ _ h => by cases h; rfl
theorem andImm (v : Byte) : Statement (.andImm v) :=
  statement_of rfl fun _ _ h => by cases h; rfl
theorem andZp (z : Byte) : Statement (.andZp z) :=
  statement_of rfl fun _ _ h => by cases h; rfl
theorem andZpx (z : Byte) : Statement (.andZpx z) :=
  statement_of rfl fun _ _ h => by cases h; rfl
theorem andAbs (w : Addr) : Statement (.andAbs w) :=
  statement_of rfl fun _ _ h => by cases h; rfl
theorem andAbsx (w : Addr) : Statement (.andAbsx w) :=
  statement_of rfl fun _ _ h => by cases h; rfl
theorem andAbsy (w : Addr) : Statement (.andAbsy w) :=
  statement_of rfl fun _ _ h => by cases h; rfl
theorem andIndx (z : Byte) : Statement (.andIndx z) :=
  statement_of rfl fun _ _ h => by cases h; rfl
theorem andIndy (z : Byte) : Statement (.andIndy z) :=
  statement_of rfl fun _ _ h => by cases h; rfl
theorem oraImm (v : Byte) : Statement (.oraImm v) :=
  statement_of rfl fun _ _ h => by cases h; rfl
theorem oraZp (z : Byte) : Statement (.oraZp z) :=
  statement_of rfl fun _ _ h => by cases h; rfl
theorem oraZpx (z : Byte) : Statement (.oraZpx z) :=
  statement_of rfl fun _ _ h => by cases h; rfl
theorem oraAbs (w : Addr) : Statement (.oraAbs w) :=
  statement_of rfl fun _ _ h => by cases h; rfl
theorem oraAbsx (w : Addr) : Statement (.oraAbsx w) :=
  statement_of rfl fun _ _ h => by cases h; rfl
theorem oraAbsy (w : Addr) : Statement (.oraAbsy w) :=
  statement_of rfl fun _ _ h => by cases h; rfl
theorem oraIndx (z : Byte) : Statement (.oraIndx z) :=
  statement_of rfl fun _ _ h => by cases h; rfl
theorem oraIndy (z : Byte) : Statement (.oraIndy z) :=
  statement_of rfl fun _ _ h => by cases h; rfl
theorem eorImm (v : Byte) : Statement (.eorImm v) :=
  statement_of rfl fun _ _ h => by cases h; rfl
theorem eorZp (z : Byte) : Statement (.eorZp z) :=
  statement_of rfl fun _ _ h => by cases h; rfl
theorem eorZpx (z : Byte) : Statement (.eorZpx z) :=
  statement_of rfl fun _ _ h => by cases h; rfl
theorem eorAbs (w : Addr) : Statement (.eorAbs w) :=
  statement_of rfl fun _ _ h => by cases h; rfl
theorem eorAbsx (w : Addr) : Statement (.eorAbsx w) :=
  statement_of rfl fun _ _ h => by cases h; rfl
theorem eorAbsy (w : Addr) : Statement (.eorAbsy w) :=
  statement_of rfl fun _ _ h => by cases h; rfl
theorem eorIndx (z : Byte) : Statement (.eorIndx z) :=
  statement_of rfl fun _ _ h => by cases h; rfl
theorem eorIndy (z : Byte) : Statement (.eorIndy z) :=
  statement_of rfl fun _ _ h => by cases h; rfl
theorem bitZp (z : Byte) : Statement (.bitZp z) :=
  statement_of rfl fun _ _ h => by cases h; rfl
theorem bitAbs (w : Addr) : Statement (.bitAbs w) :=
  statement_of rfl fun _ _ h => by cases h; rfl
theorem cmpImm (v : Byte) : Statement (.cmpImm v) :=
  statement_of rfl fun _ _ h => by cases h; rfl
theorem cmpZp (z : Byte) : Statement (.cmpZp z) :=
  statement_of rfl fun _ _ h => by cases h; rfl
theorem cmpZpx (z : Byte) : Statement (.cmpZpx z) :=
  statement_of rfl fun _ _ h => by cases h; rfl
theorem cmpAbs (w : Addr) : Statement (.cmpAbs w) :=
  statement_of rfl fun _ _ h => by cases h; rfl
theorem cmpAbsx (w : Addr) : Statement (.cmpAbsx w) :=
  statement_of rfl fun _ _ h => by cases h; rfl
theorem cmpAbsy (w : Addr) : Statement (.cmpAbsy w) :=
  statement_of rfl fun _ _ h => by cases h; rfl
theorem cmpIndx (z : Byte) : Statement (.cmpIndx z) :=
  statement_of rfl fun _ _ h => by cases h; rfl
theorem cmpIndy (z : Byte) : Statement (.cmpIndy z) :=
  statement_of rfl fun _ _ h => by cases h; rfl
theorem cpxImm (v : Byte) : Statement (.cpxImm v) :=
  statement_of rfl fun _ _ h => by cases h; rfl
theorem cpxZp (z : Byte) : Statement (.cpxZp z) :=
  statement_of rfl fun _ _ h => by cases h; rfl
theorem cpxAbs (w : Addr) : Statement (.cpxAbs w) :=
  statement_of rfl fun _ _ h => by cases h; rfl
theorem cpyImm (v : Byte) : Statement (.cpyImm v) :=
  statement_of rfl fun _ _ h => by cases h; rfl
theorem cpyZp (z : Byte) : Statement (.cpyZp z) :=
  statement_of rfl fun _ _ h => by cases h; rfl
theorem cpyAbs (w : Addr) : Statement (.cpyAbs w) :=
  statement_of rfl fun _ _ h => by cases h; rfl
theorem incZp (z : Byte) : Statement (.incZp z) :=
  statement_of rfl fun _ _ h => by cases h; rfl
theorem incZpx (z : Byte) : Statement (.incZpx z) :=
  statement_of rfl fun _ _ h => by cases h; rfl
theorem incAbs (w : Addr) : Statement (.incAbs w) :=
  statement_of rfl fun _ _ h => by cases h; rfl
theorem incAbsx (w : Addr) : Statement (.incAbsx w) :=
  statement_of rfl fun _ _ h => by cases h; rfl
theorem decZp (z : Byte) : Statement (.decZp z) :=
  statement_of rfl fun _ _ h => by cases h; rfl
theorem decZpx (z : Byte) : Statement (.decZpx z) :=
  statement_of rfl fun _ _ h => by cases h; rfl
theorem decAbs (w : Addr) : Statement (.decAbs w) :=
  statement_of rfl fun _ _ h => by cases h; rfl
theorem decAbsx (w : Addr) : Statement (.decAbsx w) :=
  statement_of rfl fun _ _ h => by cases h; rfl
theorem inx : Statement (.inx) :=
  statement_of rfl fun _ _ h => by cases h; rfl
theorem iny : Statement (.iny) :=
  statement_of rfl fun _ _ h => by cases h; rfl
theorem dex : Statement (.dex) :=
  statement_of rfl fun _ _ h => by cases h; rfl
theorem dey : Statement (.dey) :=
  statement_of rfl fun _ _ h => by cases h; rfl
theorem aslAcc : Statement (.aslAcc) :=
  statement_of rfl fun _ _ h => by cases h; rfl
theorem aslZp (z : Byte) : Statement (.aslZp z) :=
  statement_of rfl fun _ _ h => by cases h; rfl
theorem aslZpx (z : Byte) : Statement (.aslZpx z) :=
  statement_of rfl fun _ _ h => by cases h; rfl
theorem aslAbs (w : Addr) : Statement (.aslAbs w) :=
  statement_of rfl fun _ _ h => by cases h; rfl
theorem aslAbsx (w : Addr) : Statement (.aslAbsx w) :=
  statement_of rfl fun _ _ h => by cases h; rfl
theorem lsrAcc : Statement (.lsrAcc) :=
  statement_of rfl fun _ _ h => by cases h; rfl
theorem lsrZp (z : Byte) : Statement (.lsrZp z) :=
  statement_of rfl fun _ _ h => by cases h; rfl
theorem lsrZpx (z : Byte) : Statement (.lsrZpx z) :=
  statement_of rfl fun _ _ h => by cases h; rfl
theorem lsrAbs (w : Addr) : Statement (.lsrAbs w) :=
  statement_of rfl fun _ _ h => by cases h; rfl
theorem lsrAbsx (w : Addr) : Statement (.lsrAbsx w) :=
  statement_of rfl fun _ _ h => by cases h; rfl
theorem rolAcc : Statement (.rolAcc) :=
  statement_of rfl fun _ _ h => by cases h; rfl
theorem rolZp (z : Byte) : Statement (.rolZp z) :=
  statement_of rfl fun _ _ h => by cases h; rfl
theorem rolZpx (z : Byte) : Statement (.rolZpx z) :=
  statement_of rfl fun _ _ h => by cases h; rfl
theorem rolAbs (w : Addr) : Statement (.rolAbs w) :=
  statement_of rfl fun _ _ h => by cases h; rfl
theorem rolAbsx (w : Addr) : Statement (.rolAbsx w) :=
  statement_of rfl fun _ _ h => by cases h; rfl
theorem rorAcc : Statement (.rorAcc) :=
  statement_of rfl fun _ _ h => by cases h; rfl
theorem rorZp (z : Byte) : Statement (.rorZp z) :=
  statement_of rfl fun _ _ h => by cases h; rfl
theorem rorZpx (z : Byte) : Statement (.rorZpx z) :=
  statement_of rfl fun _ _ h => by cases h; rfl
theorem rorAbs (w : Addr) : Statement (.rorAbs w) :=
  statement_of rfl fun _ _ h => by cases h; rfl
theorem rorAbsx (w : Addr) : Statement (.rorAbsx w) :=
  statement_of rfl fun _ _ h => by cases h; rfl
theorem pha : Statement (.pha) :=
  statement_of rfl fun _ _ h => by cases h; rfl
theorem php : Statement (.php) :=
  statement_of rfl fun _ _ h => by cases h; rfl
theorem pla : Statement (.pla) :=
  statement_of rfl fun _ _ h => by cases h; rfl
theorem plp : Statement (.plp) :=
  statement_of rfl fun _ _ h => by cases h; rfl
theorem jmpAbs (w : Addr) : Statement (.jmpAbs w) :=
  statement_of rfl fun _ _ h => by cases h; rfl
theorem jmpInd (w : Addr) : Statement (.jmpInd w) :=
  statement_of rfl fun _ _ h => by cases h; rfl
theorem jsr (w : Addr) : Statement (.jsr w) :=
  statement_of rfl fun _ _ h => by cases h; rfl
theorem rts : Statement (.rts) :=
  statement_of rfl fun _ _ h => by cases h; rfl
theorem bcc (r : Byte) : Statement (.bcc r) :=
  statement_of rfl fun _ _ h => by cases h; rfl
theorem bcs (r : Byte) : Statement (.bcs r) :=
  statement_of rfl fun _ _ h => by cases h; rfl
theorem beq (r : Byte) : Statement (.beq r) :=
  statement_of rfl fun _ _ h => by cases h; rfl
theorem bne (r : Byte) : Statement (.bne r) :=
  statement_of rfl fun _ _ h => by cases h; rfl
theorem bmi (r : Byte) : Statement (.bmi r) :=
  statement_of rfl fun _ _ h => by cases h; rfl
theorem bpl (r : Byte) : Statement (.bpl r) :=
  statement_of rfl fun _ _ h => by cases h; rfl
theorem bvc (r : Byte) : Statement (.bvc r) :=
  statement_of rfl fun _ _ h => by cases h; rfl
theorem bvs (r : Byte) : Statement (.bvs r) :=
  statement_of rfl fun _ _ h => by cases h; rfl
theorem clc : Statement (.clc) :=
  statement_of rfl fun _ _ h => by cases h; rfl
theorem sec : Statement (.sec) :=
  statement_of rfl fun _ _ h => by cases h; rfl
theorem cli : Statement (.cli) :=
  statement_of rfl fun _ _ h => by cases h; rfl
theorem sei : Statement (.sei) :=
  statement_of rfl fun _ _ h => by cases h; rfl
theorem clv : Statement (.clv) :=
  statement_of rfl fun _ _ h => by cases h; rfl
theorem cld : Statement (.cld) :=
  statement_of rfl fun _ _ h => by cases h; rfl
theorem sed : Statement (.sed) :=
  statement_of rfl fun _ _ h => by cases h; rfl
theorem nop : Statement (.nop) :=
  statement_of rfl fun _ _ h => by cases h; rfl
theorem brk : Statement (.brk) :=
  statement_of rfl fun _ _ h => by cases h; rfl
theorem rti : Statement (.rti) :=
  statement_of rfl fun _ _ h => by cases h; rfl
theorem illegal (op : Byte) : Statement (.illegal op) := by
  refine statement_of rfl fun h o ho => ?_
  have all : ∀ o : Byte, isIllegalOpcode o = true → 1 = 1 + operandCount o := by decide +kernel
  cases ho
  exact all _ h

end Sys2Proof.Laws.EncodedLength
end

