-- ==== Sys2Proof/Laws/Word.lean ====
section
/-! SUPPORT. Bytes and addresses as numbers: zero extension, the word of two bytes and its halves, masks and pages. -/

namespace Sys2Proof

theorem zext_toNat (z : Byte) : (zext z).toNat = z.toNat := by
  have := z.isLt
  simp [zext]; omega

/-- R10, R113: a word as a number. -/
theorem word_toNat (hi lo : Byte) : (word hi lo).toNat = lo.toNat + 0x100 * hi.toNat := by
  have := lo.isLt
  rw [word, BitVec.toNat_append, ← Nat.shiftLeft_add_eq_or_of_lt this, Nat.shiftLeft_eq]
  omega

theorem word_hiByte_loByte (w : Addr) : word (hiByte w) (loByte w) = w := by
  refine BitVec.eq_of_getLsbD_eq fun i hi => ?_
  simp only [word, hiByte, loByte, BitVec.getLsbD_append, BitVec.getLsbD_extractLsb']
  by_cases h : i < 8
  · simp [h]
  · have e : 8 + (i - 8) = i := by omega
    have h' : i - 8 < 8 := by omega
    simp [h, e, h']

theorem loByte_word (hi lo : Byte) : loByte (word hi lo) = lo := by
  refine BitVec.eq_of_getLsbD_eq fun i h => ?_
  simp only [loByte, word, BitVec.getLsbD_extractLsb', BitVec.getLsbD_append]
  simp [h]

theorem hiByte_word (hi lo : Byte) : hiByte (word hi lo) = hi := by
  refine BitVec.eq_of_getLsbD_eq fun i h => ?_
  simp only [hiByte, word, BitVec.getLsbD_extractLsb', BitVec.getLsbD_append]
  simp [h]

/-- R73: the mask of internal RAM as a remainder. -/
theorem ramMask_toNat (a : Addr) : (a &&& 0x07FF).toNat = a.toNat % 0x800 := by
  have : (0x07FF : Addr).toNat = 2 ^ 11 - 1 := rfl
  rw [BitVec.toNat_and, this, Nat.and_two_pow_sub_one_eq_mod]

theorem ramMask_eq {a b : Addr} : a &&& 0x07FF = b &&& 0x07FF ↔ a.toNat % 0x800 = b.toNat % 0x800 := by
  rw [← ramMask_toNat, ← ramMask_toNat, BitVec.toNat_inj]

end Sys2Proof
end

