-- ==== Sys2Proof/Tests/Slice0.lean ====
section
/-! SUPPORT. Tests: ill-formed terms, every instruction's word, the vectors of spec/95_test_vectors.md, and the witnesses
of the statements' hypotheses. Expected values are the spec's. -/

namespace Sys2Proof.Tests
open Sys2Proof.Machine

/-- The base state of 95_test_vectors.md: a 16 KiB NROM image of zero bytes with the reset vector 0x8000, the BRK vector
0x9000 and the instruction at pc, and RAM of zero bytes but for the listed cells. -/
def bench (pc : Addr) (code : List Byte) (ram : Memory) : State :=
  let image : Memory := [(0x3FFD, 0x80), (0x3FFF, 0x90)]
  let placed := code.zipIdx.foldl (fun m (v, k) => Memory.write m (nromOffset .k16 (pc + BitVec.ofNat 16 k)) v) image
  { State.reset with pc := pc, ram := ram, prg := placed }

/-- The state a step gives, if it gives one. -/
def nextOf (s : State) : Option State :=
  match step s with
  | .next t => some t
  | _ => none

/-- The fault a step ends in, if it does. -/
def stopOf (s : State) : Option Fault :=
  match step s with
  | .fault f => some f
  | _ => none

/-- What a vector's last column shows of a state: A, X, Y, P, S, PC, RAM, the warnings and the error. -/
structure View where
  a : Byte
  x : Byte
  y : Byte
  p : Byte
  sp : Byte
  pc : Addr
  ram : Memory
  warnings : List Warning := []
  error : Option IllegalOpcode := none
deriving DecidableEq, Repr

/-- The view of the state a step gives. -/
def seen (s : State) : Option View :=
  (nextOf s).map fun t => ⟨t.a, t.x, t.y, t.p, t.sp, t.pc, t.ram, t.warnings, t.error⟩

/-! Well-formedness: the one check refuses a documented opcode byte in the illegal entry (R116). -/

theorem test_wf_refuses_documented_byte : (Instr.illegal 0xA9).wf = false ∧ (Instr.illegal 0x00).wf = false := by decide
theorem test_wf_accepts_illegal_byte : (Instr.illegal 0x02).wf = true ∧ (Instr.illegal 0xFF).wf = true := by decide
theorem test_decode_names_missing_bytes :
    decode [] = .error .noOpcode ∧ decode [0xA9] = .error (.missingOperand 0xA9) ∧
    decode [0x4C, 0x00] = .error (.missingOperand 0x4C) := ⟨rfl, rfl, rfl⟩

/-! Decoding: the word of every constructor, opcode bytes from 30_encoding.md R115, operands low byte first (R112). -/

theorem test_decode_loads :
    decode [0xA9, 0x97] = .ok (.ldaImm 0x97, []) ∧
    decode [0xA5, 0x97] = .ok (.ldaZp 0x97, []) ∧
    decode [0xB5, 0x97] = .ok (.ldaZpx 0x97, []) ∧
    decode [0xAD, 0x34, 0x12] = .ok (.ldaAbs 0x1234, []) ∧
    decode [0xBD, 0x34, 0x12] = .ok (.ldaAbsx 0x1234, []) ∧
    decode [0xB9, 0x34, 0x12] = .ok (.ldaAbsy 0x1234, []) ∧
    decode [0xA1, 0x97] = .ok (.ldaIndx 0x97, []) ∧
    decode [0xB1, 0x97] = .ok (.ldaIndy 0x97, []) ∧
    decode [0xA2, 0x97] = .ok (.ldxImm 0x97, []) ∧
    decode [0xA6, 0x97] = .ok (.ldxZp 0x97, []) ∧
    decode [0xB6, 0x97] = .ok (.ldxZpy 0x97, []) ∧
    decode [0xAE, 0x34, 0x12] = .ok (.ldxAbs 0x1234, []) ∧
    decode [0xBE, 0x34, 0x12] = .ok (.ldxAbsy 0x1234, []) ∧
    decode [0xA0, 0x97] = .ok (.ldyImm 0x97, []) ∧
    decode [0xA4, 0x97] = .ok (.ldyZp 0x97, []) ∧
    decode [0xB4, 0x97] = .ok (.ldyZpx 0x97, []) ∧
    decode [0xAC, 0x34, 0x12] = .ok (.ldyAbs 0x1234, []) ∧
    decode [0xBC, 0x34, 0x12] = .ok (.ldyAbsx 0x1234, []) :=
  ⟨rfl, rfl, rfl, rfl, rfl, rfl, rfl, rfl, rfl, rfl, rfl, rfl, rfl, rfl, rfl, rfl, rfl, rfl⟩

theorem test_decode_stores :
    decode [0x85, 0x97] = .ok (.staZp 0x97, []) ∧
    decode [0x95, 0x97] = .ok (.staZpx 0x97, []) ∧
    decode [0x8D, 0x34, 0x12] = .ok (.staAbs 0x1234, []) ∧
    decode [0x9D, 0x34, 0x12] = .ok (.staAbsx 0x1234, []) ∧
    decode [0x99, 0x34, 0x12] = .ok (.staAbsy 0x1234, []) ∧
    decode [0x81, 0x97] = .ok (.staIndx 0x97, []) ∧
    decode [0x91, 0x97] = .ok (.staIndy 0x97, []) ∧
    decode [0x86, 0x97] = .ok (.stxZp 0x97, []) ∧
    decode [0x96, 0x97] = .ok (.stxZpy 0x97, []) ∧
    decode [0x8E, 0x34, 0x12] = .ok (.stxAbs 0x1234, []) ∧
    decode [0x84, 0x97] = .ok (.styZp 0x97, []) ∧
    decode [0x94, 0x97] = .ok (.styZpx 0x97, []) ∧
    decode [0x8C, 0x34, 0x12] = .ok (.styAbs 0x1234, []) :=
  ⟨rfl, rfl, rfl, rfl, rfl, rfl, rfl, rfl, rfl, rfl, rfl, rfl, rfl⟩

theorem test_decode_transfers :
    decode [0xAA] = .ok (.tax, []) ∧
    decode [0xA8] = .ok (.tay, []) ∧
    decode [0x8A] = .ok (.txa, []) ∧
    decode [0x98] = .ok (.tya, []) ∧
    decode [0xBA] = .ok (.tsx, []) ∧
    decode [0x9A] = .ok (.txs, []) :=
  ⟨rfl, rfl, rfl, rfl, rfl, rfl⟩

theorem test_decode_add_subtract :
    decode [0x69, 0x97] = .ok (.adcImm 0x97, []) ∧
    decode [0x65, 0x97] = .ok (.adcZp 0x97, []) ∧
    decode [0x75, 0x97] = .ok (.adcZpx 0x97, []) ∧
    decode [0x6D, 0x34, 0x12] = .ok (.adcAbs 0x1234, []) ∧
    decode [0x7D, 0x34, 0x12] = .ok (.adcAbsx 0x1234, []) ∧
    decode [0x79, 0x34, 0x12] = .ok (.adcAbsy 0x1234, []) ∧
    decode [0x61, 0x97] = .ok (.adcIndx 0x97, []) ∧
    decode [0x71, 0x97] = .ok (.adcIndy 0x97, []) ∧
    decode [0xE9, 0x97] = .ok (.sbcImm 0x97, []) ∧
    decode [0xE5, 0x97] = .ok (.sbcZp 0x97, []) ∧
    decode [0xF5, 0x97] = .ok (.sbcZpx 0x97, []) ∧
    decode [0xED, 0x34, 0x12] = .ok (.sbcAbs 0x1234, []) ∧
    decode [0xFD, 0x34, 0x12] = .ok (.sbcAbsx 0x1234, []) ∧
    decode [0xF9, 0x34, 0x12] = .ok (.sbcAbsy 0x1234, []) ∧
    decode [0xE1, 0x97] = .ok (.sbcIndx 0x97, []) ∧
    decode [0xF1, 0x97] = .ok (.sbcIndy 0x97, []) :=
  ⟨rfl, rfl, rfl, rfl, rfl, rfl, rfl, rfl, rfl, rfl, rfl, rfl, rfl, rfl, rfl, rfl⟩

theorem test_decode_logic :
    decode [0x29, 0x97] = .ok (.andImm 0x97, []) ∧
    decode [0x25, 0x97] = .ok (.andZp 0x97, []) ∧
    decode [0x35, 0x97] = .ok (.andZpx 0x97, []) ∧
    decode [0x2D, 0x34, 0x12] = .ok (.andAbs 0x1234, []) ∧
    decode [0x3D, 0x34, 0x12] = .ok (.andAbsx 0x1234, []) ∧
    decode [0x39, 0x34, 0x12] = .ok (.andAbsy 0x1234, []) ∧
    decode [0x21, 0x97] = .ok (.andIndx 0x97, []) ∧
    decode [0x31, 0x97] = .ok (.andIndy 0x97, []) ∧
    decode [0x09, 0x97] = .ok (.oraImm 0x97, []) ∧
    decode [0x05, 0x97] = .ok (.oraZp 0x97, []) ∧
    decode [0x15, 0x97] = .ok (.oraZpx 0x97, []) ∧
    decode [0x0D, 0x34, 0x12] = .ok (.oraAbs 0x1234, []) ∧
    decode [0x1D, 0x34, 0x12] = .ok (.oraAbsx 0x1234, []) ∧
    decode [0x19, 0x34, 0x12] = .ok (.oraAbsy 0x1234, []) ∧
    decode [0x01, 0x97] = .ok (.oraIndx 0x97, []) ∧
    decode [0x11, 0x97] = .ok (.oraIndy 0x97, []) ∧
    decode [0x49, 0x97] = .ok (.eorImm 0x97, []) ∧
    decode [0x45, 0x97] = .ok (.eorZp 0x97, []) ∧
    decode [0x55, 0x97] = .ok (.eorZpx 0x97, []) ∧
    decode [0x4D, 0x34, 0x12] = .ok (.eorAbs 0x1234, []) ∧
    decode [0x5D, 0x34, 0x12] = .ok (.eorAbsx 0x1234, []) ∧
    decode [0x59, 0x34, 0x12] = .ok (.eorAbsy 0x1234, []) ∧
    decode [0x41, 0x97] = .ok (.eorIndx 0x97, []) ∧
    decode [0x51, 0x97] = .ok (.eorIndy 0x97, []) ∧
    decode [0x24, 0x97] = .ok (.bitZp 0x97, []) ∧
    decode [0x2C, 0x34, 0x12] = .ok (.bitAbs 0x1234, []) :=
  ⟨rfl, rfl, rfl, rfl, rfl, rfl, rfl, rfl, rfl, rfl, rfl, rfl, rfl, rfl, rfl, rfl, rfl, rfl, rfl, rfl, rfl, rfl, rfl, rfl, rfl, rfl⟩

theorem test_decode_compares :
    decode [0xC9, 0x97] = .ok (.cmpImm 0x97, []) ∧
    decode [0xC5, 0x97] = .ok (.cmpZp 0x97, []) ∧
    decode [0xD5, 0x97] = .ok (.cmpZpx 0x97, []) ∧
    decode [0xCD, 0x34, 0x12] = .ok (.cmpAbs 0x1234, []) ∧
    decode [0xDD, 0x34, 0x12] = .ok (.cmpAbsx 0x1234, []) ∧
    decode [0xD9, 0x34, 0x12] = .ok (.cmpAbsy 0x1234, []) ∧
    decode [0xC1, 0x97] = .ok (.cmpIndx 0x97, []) ∧
    decode [0xD1, 0x97] = .ok (.cmpIndy 0x97, []) ∧
    decode [0xE0, 0x97] = .ok (.cpxImm 0x97, []) ∧
    decode [0xE4, 0x97] = .ok (.cpxZp 0x97, []) ∧
    decode [0xEC, 0x34, 0x12] = .ok (.cpxAbs 0x1234, []) ∧
    decode [0xC0, 0x97] = .ok (.cpyImm 0x97, []) ∧
    decode [0xC4, 0x97] = .ok (.cpyZp 0x97, []) ∧
    decode [0xCC, 0x34, 0x12] = .ok (.cpyAbs 0x1234, []) :=
  ⟨rfl, rfl, rfl, rfl, rfl, rfl, rfl, rfl, rfl, rfl, rfl, rfl, rfl, rfl⟩

theorem test_decode_inc_dec :
    decode [0xE6, 0x97] = .ok (.incZp 0x97, []) ∧
    decode [0xF6, 0x97] = .ok (.incZpx 0x97, []) ∧
    decode [0xEE, 0x34, 0x12] = .ok (.incAbs 0x1234, []) ∧
    decode [0xFE, 0x34, 0x12] = .ok (.incAbsx 0x1234, []) ∧
    decode [0xC6, 0x97] = .ok (.decZp 0x97, []) ∧
    decode [0xD6, 0x97] = .ok (.decZpx 0x97, []) ∧
    decode [0xCE, 0x34, 0x12] = .ok (.decAbs 0x1234, []) ∧
    decode [0xDE, 0x34, 0x12] = .ok (.decAbsx 0x1234, []) ∧
    decode [0xE8] = .ok (.inx, []) ∧
    decode [0xC8] = .ok (.iny, []) ∧
    decode [0xCA] = .ok (.dex, []) ∧
    decode [0x88] = .ok (.dey, []) :=
  ⟨rfl, rfl, rfl, rfl, rfl, rfl, rfl, rfl, rfl, rfl, rfl, rfl⟩

theorem test_decode_shifts :
    decode [0x0A] = .ok (.aslAcc, []) ∧
    decode [0x06, 0x97] = .ok (.aslZp 0x97, []) ∧
    decode [0x16, 0x97] = .ok (.aslZpx 0x97, []) ∧
    decode [0x0E, 0x34, 0x12] = .ok (.aslAbs 0x1234, []) ∧
    decode [0x1E, 0x34, 0x12] = .ok (.aslAbsx 0x1234, []) ∧
    decode [0x4A] = .ok (.lsrAcc, []) ∧
    decode [0x46, 0x97] = .ok (.lsrZp 0x97, []) ∧
    decode [0x56, 0x97] = .ok (.lsrZpx 0x97, []) ∧
    decode [0x4E, 0x34, 0x12] = .ok (.lsrAbs 0x1234, []) ∧
    decode [0x5E, 0x34, 0x12] = .ok (.lsrAbsx 0x1234, []) ∧
    decode [0x2A] = .ok (.rolAcc, []) ∧
    decode [0x26, 0x97] = .ok (.rolZp 0x97, []) ∧
    decode [0x36, 0x97] = .ok (.rolZpx 0x97, []) ∧
    decode [0x2E, 0x34, 0x12] = .ok (.rolAbs 0x1234, []) ∧
    decode [0x3E, 0x34, 0x12] = .ok (.rolAbsx 0x1234, []) ∧
    decode [0x6A] = .ok (.rorAcc, []) ∧
    decode [0x66, 0x97] = .ok (.rorZp 0x97, []) ∧
    decode [0x76, 0x97] = .ok (.rorZpx 0x97, []) ∧
    decode [0x6E, 0x34, 0x12] = .ok (.rorAbs 0x1234, []) ∧
    decode [0x7E, 0x34, 0x12] = .ok (.rorAbsx 0x1234, []) :=
  ⟨rfl, rfl, rfl, rfl, rfl, rfl, rfl, rfl, rfl, rfl, rfl, rfl, rfl, rfl, rfl, rfl, rfl, rfl, rfl, rfl⟩

theorem test_decode_stack :
    decode [0x48] = .ok (.pha, []) ∧
    decode [0x08] = .ok (.php, []) ∧
    decode [0x68] = .ok (.pla, []) ∧
    decode [0x28] = .ok (.plp, []) :=
  ⟨rfl, rfl, rfl, rfl⟩

theorem test_decode_jumps :
    decode [0x4C, 0x34, 0x12] = .ok (.jmpAbs 0x1234, []) ∧
    decode [0x6C, 0x34, 0x12] = .ok (.jmpInd 0x1234, []) ∧
    decode [0x20, 0x34, 0x12] = .ok (.jsr 0x1234, []) ∧
    decode [0x60] = .ok (.rts, []) :=
  ⟨rfl, rfl, rfl, rfl⟩

theorem test_decode_branches :
    decode [0x90, 0x97] = .ok (.bcc 0x97, []) ∧
    decode [0xB0, 0x97] = .ok (.bcs 0x97, []) ∧
    decode [0xF0, 0x97] = .ok (.beq 0x97, []) ∧
    decode [0xD0, 0x97] = .ok (.bne 0x97, []) ∧
    decode [0x30, 0x97] = .ok (.bmi 0x97, []) ∧
    decode [0x10, 0x97] = .ok (.bpl 0x97, []) ∧
    decode [0x50, 0x97] = .ok (.bvc 0x97, []) ∧
    decode [0x70, 0x97] = .ok (.bvs 0x97, []) :=
  ⟨rfl, rfl, rfl, rfl, rfl, rfl, rfl, rfl⟩

theorem test_decode_system :
    decode [0x18] = .ok (.clc, []) ∧
    decode [0x38] = .ok (.sec, []) ∧
    decode [0x58] = .ok (.cli, []) ∧
    decode [0x78] = .ok (.sei, []) ∧
    decode [0xB8] = .ok (.clv, []) ∧
    decode [0xD8] = .ok (.cld, []) ∧
    decode [0xF8] = .ok (.sed, []) ∧
    decode [0xEA] = .ok (.nop, []) ∧
    decode [0x00] = .ok (.brk, []) ∧
    decode [0x40] = .ok (.rti, []) :=
  ⟨rfl, rfl, rfl, rfl, rfl, rfl, rfl, rfl, rfl, rfl⟩

theorem test_decode_illegal :
    decode [0x02, 0xEA] = .ok (.illegal 0x02, [0xEA]) ∧ decode [0x1A] = .ok (.illegal 0x1A, []) ∧
    decode [0xFF] = .ok (.illegal 0xFF, []) := ⟨rfl, rfl, rfl⟩

/-! Vectors of 95_test_vectors.md section 2: one step on its base state, at most two for each instruction, and those of
dispatch and addressing. The name gives the vector and the rule. -/

theorem test_T1_R149 : seen (bench 0x8000 [0xA5, 0x10] [(0x010, 0x33)]) =
    some ⟨0x33, 0x00, 0x00, 0x00, 0xFF, 0x8002, [(0x010, 0x33)], [], none⟩ := by decide
theorem test_T2_R150 : seen { bench 0x8000 [0xB5, 0xFF] [(0x001, 0x77)] with x := 0x02 } =
    some ⟨0x77, 0x02, 0x00, 0x00, 0xFF, 0x8002, [(0x001, 0x77)], [], none⟩ := by decide
theorem test_T3_R151 : seen { bench 0x8000 [0xB6, 0xF0] [(0x010, 0x05)] with y := 0x20 } =
    some ⟨0x00, 0x05, 0x20, 0x00, 0xFF, 0x8002, [(0x010, 0x05)], [], none⟩ := by decide
theorem test_T4_R152 : seen (bench 0x8000 [0xAD, 0x34, 0x12] [(0x234, 0x9A)]) =
    some ⟨0x9A, 0x00, 0x00, 0x80, 0xFF, 0x8003, [(0x234, 0x9A)], [], none⟩ := by decide
theorem test_T5_R153 : seen { bench 0x8000 [0xBD, 0xFF, 0xFF] [(0x000, 0x11)] with x := 0x01 } =
    some ⟨0x11, 0x01, 0x00, 0x00, 0xFF, 0x8003, [(0x000, 0x11)], [], none⟩ := by decide
theorem test_T6_R154 : seen { bench 0x8000 [0xB9, 0xF0, 0x02] [(0x310, 0x44)] with y := 0x20 } =
    some ⟨0x44, 0x00, 0x20, 0x00, 0xFF, 0x8003, [(0x310, 0x44)], [], none⟩ := by decide
theorem test_T7_R155 : seen (bench 0x8000 [0x6C, 0xFF, 0x02] [(0x200, 0x12), (0x2ff, 0x34), (0x300, 0x56)]) =
    some ⟨0x00, 0x00, 0x00, 0x00, 0xFF, 0x1234, [(0x200, 0x12), (0x2ff, 0x34), (0x300, 0x56)], [], none⟩ := by decide
theorem test_T8_R155 : seen (bench 0x8000 [0x6C, 0x10, 0x02] [(0x211, 0x90)]) =
    some ⟨0x00, 0x00, 0x00, 0x00, 0xFF, 0x9000, [(0x211, 0x90)], [], none⟩ := by decide
theorem test_T9_R156 : seen { bench 0x8000 [0xA1, 0xFE] [(0x000, 0x03), (0x300, 0x5C)] with x := 0x01 } =
    some ⟨0x5C, 0x01, 0x00, 0x00, 0xFF, 0x8002, [(0x000, 0x03), (0x300, 0x5C)], [], none⟩ := by decide
theorem test_T10_R157 : seen { bench 0x8000 [0xB1, 0x10] [(0x010, 0xF0), (0x011, 0x02), (0x310, 0x66)] with y := 0x20 } =
    some ⟨0x66, 0x00, 0x20, 0x00, 0xFF, 0x8002, [(0x010, 0xF0), (0x011, 0x02), (0x310, 0x66)], [], none⟩ := by decide
theorem test_T11_R157 : seen { bench 0x8000 [0xB1, 0xFF] [(0x000, 0x03), (0x301, 0x21)] with y := 0x01 } =
    some ⟨0x21, 0x00, 0x01, 0x00, 0xFF, 0x8002, [(0x000, 0x03), (0x301, 0x21)], [], none⟩ := by decide
theorem test_T13_R158 : seen (bench 0x800A [0xD0, 0xF8] []) =
    some ⟨0x00, 0x00, 0x00, 0x00, 0xFF, 0x8004, [], [], none⟩ := by decide
theorem test_T14_R158 : seen { bench 0xFFF0 [0xF0, 0x7F] [] with p := 0x02 } =
    some ⟨0x00, 0x00, 0x00, 0x02, 0xFF, 0x0071, [], [], none⟩ := by decide
theorem test_T15_R303 : seen (bench 0x8000 [0x02] []) =
    some ⟨0x00, 0x00, 0x00, 0x00, 0xFF, 0x8001, [], [], some ⟨0x02, 0x8000⟩⟩ := by decide +kernel
theorem test_T16_R303 : seen { bench 0x8000 [0xFF] [] with a := 0x12 } =
    some ⟨0x12, 0x00, 0x00, 0x00, 0xFF, 0x8001, [], [], some ⟨0xFF, 0x8000⟩⟩ := by decide +kernel
theorem test_T17_R76 : stopOf (bench 0x8000 [0xAD, 0x00, 0x20] []) = some (.invalidBusAddress 0x2000 .read []) := by decide
theorem test_T18_R76 : stopOf { bench 0x8000 [0x8D, 0x00, 0x60] [] with a := 0x01 } = some (.invalidBusAddress 0x6000 .write []) := by decide
theorem test_T19_R142 : seen (bench 0xFFFF [0xEA] []) =
    some ⟨0x00, 0x00, 0x00, 0x00, 0xFF, 0x0000, [], [], none⟩ := by decide
theorem test_T20_R80 : seen { bench 0x8000 [0x8D, 0x00, 0x80] [] with a := 0x55 } =
    some ⟨0x55, 0x00, 0x00, 0x00, 0xFF, 0x8003, [], [], none⟩ := by decide
theorem test_T21_R180 : seen { bench 0x8000 [0xA9, 0x00] [] with p := 0x80 } =
    some ⟨0x00, 0x00, 0x00, 0x02, 0xFF, 0x8002, [], [], none⟩ := by decide
theorem test_T22_R180 : seen (bench 0x8000 [0xA9, 0x80] []) =
    some ⟨0x80, 0x00, 0x00, 0x80, 0xFF, 0x8002, [], [], none⟩ := by decide
theorem test_T23_R180 : seen { bench 0x8000 [0xBD, 0x00, 0x08] [(0x005, 0x01)] with x := 0x05 } =
    some ⟨0x01, 0x05, 0x00, 0x00, 0xFF, 0x8003, [(0x005, 0x01)], [], none⟩ := by decide
theorem test_T24_R181 : seen (bench 0x8000 [0xA2, 0x00] []) =
    some ⟨0x00, 0x00, 0x00, 0x02, 0xFF, 0x8002, [], [], none⟩ := by decide
theorem test_T25_R181 : seen { bench 0x8000 [0xBE, 0x00, 0x02] [(0x2ff, 0x80)] with y := 0xFF } =
    some ⟨0x00, 0x80, 0xFF, 0x80, 0xFF, 0x8003, [(0x2ff, 0x80)], [], none⟩ := by decide
theorem test_T26_R182 : seen { bench 0x8000 [0xB4, 0x80] [(0x000, 0x7F)] with x := 0x80 } =
    some ⟨0x00, 0x80, 0x7F, 0x00, 0xFF, 0x8002, [(0x000, 0x7F)], [], none⟩ := by decide
theorem test_T27_R183 : seen { bench 0x8000 [0x9D, 0xFF, 0x07] [] with a := 0xAB, x := 0x01 } =
    some ⟨0xAB, 0x01, 0x00, 0x00, 0xFF, 0x8003, [(0x000, 0xAB)], [], none⟩ := by decide
theorem test_T28_R183 : seen { bench 0x8000 [0x91, 0x40] [(0x041, 0x02)] with a := 0x01, y := 0x10 } =
    some ⟨0x01, 0x00, 0x10, 0x00, 0xFF, 0x8002, [(0x041, 0x02), (0x210, 0x01)], [], none⟩ := by decide
theorem test_T29_R184 : seen { bench 0x8000 [0x96, 0xFF] [] with x := 0x07, y := 0x02 } =
    some ⟨0x00, 0x07, 0x02, 0x00, 0xFF, 0x8002, [(0x001, 0x07)], [], none⟩ := by decide
theorem test_T30_R185 : stopOf { bench 0x8000 [0x8C, 0x00, 0x60] [] with y := 0x03 } = some (.invalidBusAddress 0x6000 .write []) := by decide
theorem test_T31_R186 : seen { bench 0x8000 [0xAA] [] with x := 0x33 } =
    some ⟨0x00, 0x00, 0x00, 0x02, 0xFF, 0x8001, [], [], none⟩ := by decide
theorem test_T32_R187 : seen { bench 0x8000 [0xA8] [] with a := 0x90 } =
    some ⟨0x90, 0x00, 0x90, 0x80, 0xFF, 0x8001, [], [], none⟩ := by decide
theorem test_T33_R188 : seen { bench 0x8000 [0x8A] [] with a := 0xFF, x := 0x01, p := 0x80 } =
    some ⟨0x01, 0x01, 0x00, 0x00, 0xFF, 0x8001, [], [], none⟩ := by decide
theorem test_T34_R189 : seen { bench 0x8000 [0x98] [] with y := 0xFF } =
    some ⟨0xFF, 0x00, 0xFF, 0x80, 0xFF, 0x8001, [], [], none⟩ := by decide
theorem test_T35_R190 : seen { bench 0x8000 [0xBA] [] with sp := 0x00 } =
    some ⟨0x00, 0x00, 0x00, 0x02, 0x00, 0x8001, [], [], none⟩ := by decide
theorem test_T36_R191 : seen (bench 0x8000 [0x9A] []) =
    some ⟨0x00, 0x00, 0x00, 0x00, 0x00, 0x8001, [], [], none⟩ := by decide
theorem test_T39_R200 : seen { bench 0x8000 [0x69, 0x01] [] with a := 0x7F } =
    some ⟨0x80, 0x00, 0x00, 0xC0, 0xFF, 0x8002, [], [], none⟩ := by decide
theorem test_T40_R200 : seen { bench 0x8000 [0x69, 0xFF] [] with a := 0x80 } =
    some ⟨0x7F, 0x00, 0x00, 0x41, 0xFF, 0x8002, [], [], none⟩ := by decide
theorem test_T44_R201 : seen { bench 0x8000 [0xE9, 0x30] [] with a := 0x50 } =
    some ⟨0x1F, 0x00, 0x00, 0x01, 0xFF, 0x8002, [], [], none⟩ := by decide
theorem test_T45_R201 : seen { bench 0x8000 [0xE9, 0xB0] [] with a := 0x50, p := 0x01 } =
    some ⟨0xA0, 0x00, 0x00, 0xC0, 0xFF, 0x8002, [], [], none⟩ := by decide
theorem test_T48_R202 : seen { bench 0x8000 [0x29, 0x0F] [] with a := 0xF0 } =
    some ⟨0x00, 0x00, 0x00, 0x02, 0xFF, 0x8002, [], [], none⟩ := by decide
theorem test_T49_R202 : seen { bench 0x8000 [0x29, 0xC3] [] with a := 0x81 } =
    some ⟨0x81, 0x00, 0x00, 0x80, 0xFF, 0x8002, [], [], none⟩ := by decide
theorem test_T50_R203 : seen { bench 0x8000 [0x09, 0x01] [] with a := 0x80 } =
    some ⟨0x81, 0x00, 0x00, 0x80, 0xFF, 0x8002, [], [], none⟩ := by decide
theorem test_T51_R203 : seen (bench 0x8000 [0x09, 0x00] []) =
    some ⟨0x00, 0x00, 0x00, 0x02, 0xFF, 0x8002, [], [], none⟩ := by decide
theorem test_T52_R204 : seen { bench 0x8000 [0x49, 0xFF] [] with a := 0xFF } =
    some ⟨0x00, 0x00, 0x00, 0x02, 0xFF, 0x8002, [], [], none⟩ := by decide
theorem test_T53_R205 : seen { bench 0x8000 [0x24, 0x10] [(0x010, 0xC0)] with a := 0x01 } =
    some ⟨0x01, 0x00, 0x00, 0xC2, 0xFF, 0x8002, [(0x010, 0xC0)], [], none⟩ := by decide
theorem test_T54_R205 : seen { bench 0x8000 [0x2C, 0x00, 0x02] [(0x200, 0x01)] with a := 0xFF, p := 0xC2 } =
    some ⟨0xFF, 0x00, 0x00, 0x00, 0xFF, 0x8003, [(0x200, 0x01)], [], none⟩ := by decide
theorem test_T55_R206 : seen { bench 0x8000 [0xC9, 0x40] [] with a := 0x40 } =
    some ⟨0x40, 0x00, 0x00, 0x03, 0xFF, 0x8002, [], [], none⟩ := by decide
theorem test_T56_R206 : seen { bench 0x8000 [0xC9, 0x41] [] with a := 0x40 } =
    some ⟨0x40, 0x00, 0x00, 0x80, 0xFF, 0x8002, [], [], none⟩ := by decide
theorem test_T57_R206 : seen { bench 0x8000 [0xC5, 0x10] [(0x010, 0x80)] with p := 0x40 } =
    some ⟨0x00, 0x00, 0x00, 0xC0, 0xFF, 0x8002, [(0x010, 0x80)], [], none⟩ := by decide
theorem test_T58_R207 : seen { bench 0x8000 [0xE0, 0x06] [] with x := 0x05 } =
    some ⟨0x00, 0x05, 0x00, 0x80, 0xFF, 0x8002, [], [], none⟩ := by decide
theorem test_T59_R207 : seen (bench 0x8000 [0xE0, 0x00] []) =
    some ⟨0x00, 0x00, 0x00, 0x03, 0xFF, 0x8002, [], [], none⟩ := by decide
theorem test_T60_R208 : seen { bench 0x8000 [0xC0, 0x00] [] with y := 0x80 } =
    some ⟨0x00, 0x00, 0x80, 0x81, 0xFF, 0x8002, [], [], none⟩ := by decide
theorem test_T61_R209 : seen (bench 0x8000 [0xE6, 0x10] [(0x010, 0xFF)]) =
    some ⟨0x00, 0x00, 0x00, 0x02, 0xFF, 0x8002, [], [], none⟩ := by decide
theorem test_T62_R209 : seen { bench 0x8000 [0xFE, 0xFF, 0x00] [(0x100, 0x7F)] with x := 0x01 } =
    some ⟨0x00, 0x01, 0x00, 0x80, 0xFF, 0x8003, [(0x100, 0x80)], [], none⟩ := by decide
theorem test_T63_R210 : seen (bench 0x8000 [0xC6, 0x10] []) =
    some ⟨0x00, 0x00, 0x00, 0x80, 0xFF, 0x8002, [(0x010, 0xFF)], [], none⟩ := by decide
theorem test_T64_R210 : seen (bench 0x8000 [0xCE, 0x00, 0x02] [(0x200, 0x01)]) =
    some ⟨0x00, 0x00, 0x00, 0x02, 0xFF, 0x8003, [], [], none⟩ := by decide
theorem test_T65_R211 : seen { bench 0x8000 [0xE8] [] with x := 0xFF } =
    some ⟨0x00, 0x00, 0x00, 0x02, 0xFF, 0x8001, [], [], none⟩ := by decide
theorem test_T66_R212 : seen { bench 0x8000 [0xC8] [] with y := 0x7F } =
    some ⟨0x00, 0x00, 0x80, 0x80, 0xFF, 0x8001, [], [], none⟩ := by decide
theorem test_T67_R213 : seen (bench 0x8000 [0xCA] []) =
    some ⟨0x00, 0xFF, 0x00, 0x80, 0xFF, 0x8001, [], [], none⟩ := by decide
theorem test_T68_R214 : seen { bench 0x8000 [0x88] [] with y := 0x01 } =
    some ⟨0x00, 0x00, 0x00, 0x02, 0xFF, 0x8001, [], [], none⟩ := by decide
theorem test_T69_R230 : seen { bench 0x8000 [0x0A] [] with a := 0x80 } =
    some ⟨0x00, 0x00, 0x00, 0x03, 0xFF, 0x8001, [], [], none⟩ := by decide
theorem test_T70_R230 : seen { bench 0x8000 [0x0A] [] with a := 0x81 } =
    some ⟨0x02, 0x00, 0x00, 0x01, 0xFF, 0x8001, [], [], none⟩ := by decide
theorem test_T71_R230 : seen { bench 0x8000 [0x1E, 0x00, 0x02] [(0x210, 0x40)] with x := 0x10, p := 0x01 } =
    some ⟨0x00, 0x10, 0x00, 0x80, 0xFF, 0x8003, [(0x210, 0x80)], [], none⟩ := by decide
theorem test_T72_R231 : seen { bench 0x8000 [0x4A] [] with a := 0x01, p := 0x80 } =
    some ⟨0x00, 0x00, 0x00, 0x03, 0xFF, 0x8001, [], [], none⟩ := by decide
theorem test_T73_R231 : seen (bench 0x8000 [0x46, 0x10] [(0x010, 0xFE)]) =
    some ⟨0x00, 0x00, 0x00, 0x00, 0xFF, 0x8002, [(0x010, 0x7F)], [], none⟩ := by decide
theorem test_T74_R232 : seen { bench 0x8000 [0x2A] [] with a := 0x80 } =
    some ⟨0x00, 0x00, 0x00, 0x03, 0xFF, 0x8001, [], [], none⟩ := by decide
theorem test_T75_R232 : seen { bench 0x8000 [0x26, 0x10] [(0x010, 0x40)] with p := 0x01 } =
    some ⟨0x00, 0x00, 0x00, 0x80, 0xFF, 0x8002, [(0x010, 0x81)], [], none⟩ := by decide
theorem test_T76_R233 : seen { bench 0x8000 [0x6A] [] with p := 0x01 } =
    some ⟨0x80, 0x00, 0x00, 0x80, 0xFF, 0x8001, [], [], none⟩ := by decide
theorem test_T77_R233 : seen { bench 0x8000 [0x66, 0x10] [(0x010, 0x02)] with p := 0x01 } =
    some ⟨0x00, 0x00, 0x00, 0x80, 0xFF, 0x8002, [(0x010, 0x81)], [], none⟩ := by decide
theorem test_T78_R233 : seen { bench 0x8000 [0x7E, 0xFF, 0x07] [(0x000, 0x01)] with x := 0x01 } =
    some ⟨0x00, 0x01, 0x00, 0x03, 0xFF, 0x8003, [], [], none⟩ := by decide
theorem test_T79_R240 : seen { bench 0x8000 [0x48] [] with a := 0x42 } =
    some ⟨0x42, 0x00, 0x00, 0x00, 0xFE, 0x8001, [(0x1ff, 0x42)], [], none⟩ := by decide
theorem test_T80_R240 : seen { bench 0x8000 [0x48] [] with a := 0x42, sp := 0x00 } =
    some ⟨0x42, 0x00, 0x00, 0x00, 0xFF, 0x8001, [(0x100, 0x42)], [.stackOverflow], none⟩ := by decide
theorem test_T81_R241 : seen (bench 0x8000 [0x08] []) =
    some ⟨0x00, 0x00, 0x00, 0x00, 0xFE, 0x8001, [(0x1ff, 0x30)], [], none⟩ := by decide
theorem test_T82_R241 : seen { bench 0x8000 [0x08] [] with p := 0xC3 } =
    some ⟨0x00, 0x00, 0x00, 0xC3, 0xFE, 0x8001, [(0x1ff, 0xF3)], [], none⟩ := by decide
theorem test_T83_R242 : seen { bench 0x8000 [0x68] [(0x1ff, 0x80)] with sp := 0xFE } =
    some ⟨0x80, 0x00, 0x00, 0x80, 0xFF, 0x8001, [(0x1ff, 0x80)], [], none⟩ := by decide
theorem test_T84_R242 : seen (bench 0x8000 [0x68] []) =
    some ⟨0x00, 0x00, 0x00, 0x02, 0x00, 0x8001, [], [.stackUnderflow], none⟩ := by decide
theorem test_T85_R243 : seen { bench 0x8000 [0x28] [(0x1ff, 0xFF)] with sp := 0xFE } =
    some ⟨0x00, 0x00, 0x00, 0xCF, 0xFF, 0x8001, [(0x1ff, 0xFF)], [], none⟩ := by decide
theorem test_T86_R243 : seen { bench 0x8000 [0x28] [] with p := 0x30, sp := 0xFE } =
    some ⟨0x00, 0x00, 0x00, 0x30, 0xFF, 0x8001, [], [], none⟩ := by decide
theorem test_T87_R250 : seen (bench 0x8010 [0x4C, 0x00, 0x80] []) =
    some ⟨0x00, 0x00, 0x00, 0x00, 0xFF, 0x8000, [], [], none⟩ := by decide
theorem test_T88_R250 : seen (bench 0x8000 [0x4C, 0x00, 0x80] []) =
    some ⟨0x00, 0x00, 0x00, 0x00, 0xFF, 0x8000, [], [], none⟩ := by decide
theorem test_T91_R251 : seen { bench 0x8000 [0x20, 0x00, 0x90] [] with sp := 0x00 } =
    some ⟨0x00, 0x00, 0x00, 0x00, 0xFE, 0x9000, [(0x100, 0x80), (0x1ff, 0x02)], [.stackOverflow], none⟩ := by decide
theorem test_T92_R251 : seen { bench 0x8000 [0x20, 0x00, 0x90] [] with sp := 0x01 } =
    some ⟨0x00, 0x00, 0x00, 0x00, 0xFF, 0x9000, [(0x100, 0x02), (0x101, 0x80)], [.stackOverflow], none⟩ := by decide
theorem test_T93_R252 : seen { bench 0x8000 [0x60] [(0x1fe, 0x02), (0x1ff, 0x80)] with sp := 0xFD } =
    some ⟨0x00, 0x00, 0x00, 0x00, 0xFF, 0x8003, [(0x1fe, 0x02), (0x1ff, 0x80)], [], none⟩ := by decide
theorem test_T95_R252 : seen { bench 0x8000 [0x60] [(0x100, 0x80), (0x1ff, 0x05)] with sp := 0xFE } =
    some ⟨0x00, 0x00, 0x00, 0x00, 0x00, 0x8006, [(0x100, 0x80), (0x1ff, 0x05)], [.stackUnderflow], none⟩ := by decide
theorem test_T96_R254 : seen (bench 0x8000 [0x90, 0x02] []) =
    some ⟨0x00, 0x00, 0x00, 0x00, 0xFF, 0x8004, [], [], none⟩ := by decide
theorem test_T97_R254 : seen { bench 0x8000 [0x90, 0x02] [] with p := 0x01 } =
    some ⟨0x00, 0x00, 0x00, 0x01, 0xFF, 0x8002, [], [], none⟩ := by decide
theorem test_T98_R255 : seen { bench 0x8000 [0xB0, 0xFE] [] with p := 0x01 } =
    some ⟨0x00, 0x00, 0x00, 0x01, 0xFF, 0x8000, [], [], none⟩ := by decide
theorem test_T99_R256 : seen { bench 0x8000 [0xF0, 0x10] [] with p := 0x02 } =
    some ⟨0x00, 0x00, 0x00, 0x02, 0xFF, 0x8012, [], [], none⟩ := by decide
theorem test_T100_R257 : seen (bench 0x8000 [0xD0, 0x00] []) =
    some ⟨0x00, 0x00, 0x00, 0x00, 0xFF, 0x8002, [], [], none⟩ := by decide
theorem test_T101_R258 : seen { bench 0x8000 [0x30, 0x80] [] with p := 0x80 } =
    some ⟨0x00, 0x00, 0x00, 0x80, 0xFF, 0x7F82, [], [], none⟩ := by decide
theorem test_T102_R259 : seen (bench 0x8000 [0x10, 0x7F] []) =
    some ⟨0x00, 0x00, 0x00, 0x00, 0xFF, 0x8081, [], [], none⟩ := by decide
theorem test_T103_R260 : seen { bench 0x8000 [0x50, 0x04] [] with p := 0x40 } =
    some ⟨0x00, 0x00, 0x00, 0x40, 0xFF, 0x8002, [], [], none⟩ := by decide
theorem test_T104_R261 : seen { bench 0x9000 [0x70, 0x04] [] with p := 0x40 } =
    some ⟨0x00, 0x00, 0x00, 0x40, 0xFF, 0x9006, [], [], none⟩ := by decide
theorem test_T105_R270 : seen { bench 0x8000 [0x18] [] with p := 0xFF } =
    some ⟨0x00, 0x00, 0x00, 0xFE, 0xFF, 0x8001, [], [], none⟩ := by decide
theorem test_T106_R271 : seen (bench 0x8000 [0x38] []) =
    some ⟨0x00, 0x00, 0x00, 0x01, 0xFF, 0x8001, [], [], none⟩ := by decide
theorem test_T107_R272 : seen { bench 0x8000 [0x58] [] with p := 0x04 } =
    some ⟨0x00, 0x00, 0x00, 0x00, 0xFF, 0x8001, [], [], none⟩ := by decide
theorem test_T108_R273 : seen (bench 0x8000 [0x78] []) =
    some ⟨0x00, 0x00, 0x00, 0x04, 0xFF, 0x8001, [], [], none⟩ := by decide
theorem test_T109_R274 : seen { bench 0x8000 [0xB8] [] with p := 0xC0 } =
    some ⟨0x00, 0x00, 0x00, 0x80, 0xFF, 0x8001, [], [], none⟩ := by decide
theorem test_T110_R275 : seen { bench 0x8000 [0xD8] [] with p := 0x08 } =
    some ⟨0x00, 0x00, 0x00, 0x00, 0xFF, 0x8001, [], [], none⟩ := by decide
theorem test_T111_R276 : seen (bench 0x8000 [0xF8] []) =
    some ⟨0x00, 0x00, 0x00, 0x08, 0xFF, 0x8001, [], [], none⟩ := by decide
theorem test_T112_R277 : seen { bench 0x8000 [0xEA] [] with a := 0x12 } =
    some ⟨0x12, 0x00, 0x00, 0x00, 0xFF, 0x8001, [], [], none⟩ := by decide
theorem test_T113_R278 : seen (bench 0x8000 [0x00, 0xFF] []) =
    some ⟨0x00, 0x00, 0x00, 0x04, 0xFC, 0x9000, [(0x1fd, 0x30), (0x1fe, 0x02), (0x1ff, 0x80)], [], none⟩ := by decide
theorem test_T115_R278 : seen { bench 0x8000 [0x00] [] with sp := 0x01 } =
    some ⟨0x00, 0x00, 0x00, 0x04, 0xFE, 0x9000, [(0x100, 0x02), (0x101, 0x80), (0x1ff, 0x30)], [.stackOverflow], none⟩ := by decide
theorem test_T118_R279 : seen { bench 0x8000 [0x40] [(0x1fd, 0xFF), (0x1fe, 0x34), (0x1ff, 0x12)] with sp := 0xFC } =
    some ⟨0x00, 0x00, 0x00, 0xCF, 0xFF, 0x1234, [(0x1fd, 0xFF), (0x1fe, 0x34), (0x1ff, 0x12)], [], none⟩ := by decide
theorem test_T119_R279 : seen { bench 0x8000 [0x40] [(0x101, 0x90), (0x1ff, 0x01)] with sp := 0xFE } =
    some ⟨0x00, 0x00, 0x00, 0x01, 0x01, 0x9000, [(0x101, 0x90), (0x1ff, 0x01)], [.stackUnderflow], none⟩ := by decide

/-! Worked examples S7 and S8, the mapper id of a header (R78), and placing a word where the next step fetches. -/

theorem test_S7_reset :
    (match hostReset 0x00 { bench 0x1234 [] [] with a := 0x55, x := 0x66, y := 0x77, p := 0xFF, sp := 0x12 } with
      | .ok t => some (t.a, t.x, t.y, t.p, t.sp, t.pc)
      | .error _ => none) = some (0x00, 0x00, 0x00, 0x00, 0xFF, 0x8000) := by decide
theorem test_S8_mirror :
    ({ State.reset with prg := [(0x0123, 0xAB)] } : State).peek 0x8123 = some 0xAB ∧
    ({ State.reset with prg := [(0x0123, 0xAB)] } : State).peek 0xC123 = some 0xAB ∧
    ({ State.reset with prg := [(0x0123, 0xAB), (0x4123, 0xCD)], mapper := .nrom .k32 } : State).peek 0xC123 = some 0xCD := by
  decide
theorem test_mapper_id : mapperId 0x41 0x20 = 0x24 ∧ mapperId 0x01 0x00 = 0x00 := by decide

/-! A MAPPER_TRANSLATE with two 16 KiB windows (R81): a write of any address chooses the PRG bank of the low one, and the
high one is the last bank of the buffer, so that both functions use the mapper's state, the address, the byte or PRG_LEN. -/

def banked : MapperTranslate where
  read := .ifLt .address (.lit 0xC000)
    (.prgByte (.add (.mul .state (.lit 0x4000)) (.sub .address (.lit 0x8000))))
    (.prgByte (.add (.sub .prgLength (.lit 0x4000)) (.sub .address (.lit 0xC000))))
  write := .mod .value (.div .prgLength (.lit 0x4000))
  initial := 0
  vectorGaps := []

/-- The platform supplies it for mapper id 2. -/
def onlyBanked (id : Byte) : Option MapperTranslate := if id = 2 then some banked else none

/-- Three banks loaded, which read 0x11, 0x22 and 0x33 at their start. -/
def withMapper : State :=
  { State.reset with mapper := .translated 2 0xC000 banked, prg := [(0x0000, 0x11), (0x4000, 0x22), (0x8000, 0x33)] }

/-- The same cartridge with 0xFFFD and 0xFFFF left unmapped. -/
def gapped : State := { withMapper with mapper := .translated 2 0xC000 { banked with vectorGaps := [1, 3] } }

theorem test_supplied_mapper :
    withMapper.peek 0x8000 = some 0x11 ∧ withMapper.peek 0xC000 = some 0x33 ∧
    (match busWrite 0xFFFF 0x04 withMapper with
      | .ok t => (t.mapperState, t.peek 0x8000, t.peek 0xC000)
      | .error _ => (0, none, none)) = (1, some 0x22, some 0x33) := by decide
/-- A write of an unmapped vector byte does not fail (R81); a reset from it does (R342). -/
theorem test_unmapped_vector :
    (match busWrite 0xFFFF 0x02 gapped with
      | .ok t => some t.mapperState
      | .error _ => none) = some 2 ∧
    (match hostReset 0x00 gapped with
      | .ok _ => none
      | .error f => some f) = some (.invalidBusAddress 0xFFFD .read []) := by decide
theorem test_load_selects_mapper :
    (match load 4 [0x11] [] onlyBanked .empty with
      | .ok _ => none
      | .error e => some e) = some (.unsupportedMapper 4) ∧
    (match load 2 [0x11, 0x00] [] onlyBanked .empty with
      | .ok s => some s.mapper
      | .error _ => none) = some (.translated 2 2 banked) := by decide
/-- The step with its configuration as a parameter: LDA #$80 at 0x0000. -/
theorem test_step_with_parameters :
    (match stepWith State.reset.parameters State.reset.processor
        { State.reset.busState with ram := [(0x0000, 0xA9), (0x0001, 0x80)] } with
      | .next (r, _, o) => some (r.a, r.pc, o.warnings)
      | _ => none) = some (0x80, 0x0002, []) := by decide
theorem test_table_word :
    decodeTableWord 16 0x80A9 = some (.ldaImm 0x80) ∧ decodeTableWord 24 0x123420 = some (.jsr 0x1234) ∧
    decodeTableWord 8 0x20 = some (.jsr 0x0000) ∧ decodeTableWord 8 0x02 = some (.illegal 0x02) := by decide
theorem test_placed_word_runs :
    ((nextOf (State.reset.withFetchWord 16 0x80A9)).map fun t => (t.a, t.p, t.pc)) = some (0x80, 0x80, 0x0002) ∧
    ((nextOf ({ State.reset with pc := 0x2000 }.withFetchWord 24 0x123420)).map fun t => (t.sp, t.pc)) = some (0xFD, 0x1234) := by
  decide

/-! Witnesses: for each statement that has hypotheses, a state and operands that meet them, one part per clause, at the
edges of the ranges. -/

/-- A state with a supplied EXT_REGION. -/
def withDevice : State := { State.reset with ext := .device }


theorem witness_RamMirrorsNameOneByte :
    (0x07FF : Addr).toNat < 0x2000 ∧ (0x1FFF : Addr).toNat < 0x2000 ∧ (0x07FF : Addr) &&& 0x07FF = 0x1FFF &&& 0x07FF := by
  decide
theorem witness_BusAccessesHaveNoFurtherEffect :
    (0x1FFF : Addr).toNat < 0x2000 ∧ 0x8000 ≤ (0x8000 : Addr).toNat ∧ State.reset.mapper.isNrom = true ∧
    ¬ SameByte 0x0000 0x0001 ∧ SameByte 0x0000 0x1800 := by
  decide
theorem witness_BusRoutesEachAddress :
    ((0x1FFF : Addr).toNat < 0x2000) ∧ (unmapped 0x2000 ∧ State.reset.ext = .empty) ∧
    (unmapped 0x7FFF ∧ withDevice.ext = .device) ∧ (0x8000 ≤ (0x8000 : Addr).toNat ∧ State.reset.mapper = .nrom .k16) ∧
    (0x8000 ≤ (0xFFFF : Addr).toNat ∧ withMapper.mapper = .translated 2 0xC000 banked ∧ banked.leavesUnmapped 0xFFFF = false) ∧
    (0x8000 ≤ (0xFFFF : Addr).toNat ∧ gapped.mapper = .translated 2 0xC000 { banked with vectorGaps := [1, 3] } ∧
      ({ banked with vectorGaps := [1, 3] } : MapperTranslate).leavesUnmapped 0xFFFF = true) := by
  decide
theorem witness_InvalidBusAddressExactlyWhereUnmapped :
    State.reset.plainMap ∧ withMapper.plainMap ∧ ¬ unmapped 0x1FFF ∧ unmapped 0x2000 ∧ unmapped 0x7FFF ∧ ¬ unmapped 0x8000 := by
  decide
theorem witness_NromReadsThePrgBuffer :
    (0x8000 ≤ (0xBFFF : Addr).toNat ∧ (0xBFFF : Addr).toNat < 0xC000 ∧ State.reset.mapper = .nrom .k16) ∧
    (0x8000 ≤ (0xFFFF : Addr).toNat ∧ ({ State.reset with mapper := .nrom .k32 } : State).mapper = .nrom .k32) ∧
    (([] : List Byte).length ≠ 16384 ∧ ([] : List Byte).length ≠ 32768) := by
  decide
theorem witness_LoadedCartridgeHoldsItsImages :
    (List.replicate 16384 (0xEA : Byte)).length = 16384 ∧ (List.replicate 32768 (0xEA : Byte)).length = 32768 ∧
    (List.replicate 2048 (0 : Byte)).length = 2048 ∧ 0x8000 ≤ (0x8000 : Addr).toNat ∧ (0x1FFF : Addr).toNat < 0x2000 ∧
    ((2 : Byte) ≠ 0 ∧ onlyBanked 2 = some banked ∧ ∃ s, load 2 [0x11] [] onlyBanked .empty = .ok s) :=
  ⟨List.length_replicate, List.length_replicate, List.length_replicate, by decide, by decide, by decide, by decide, _, rfl⟩
theorem witness_UnsupportedMapperFailsAtLoad :
    ((4 : Byte) ≠ 0 ∧ onlyBanked 4 = none) ∧ ((2 : Byte) ≠ 0 ∧ onlyBanked 2 = some banked) := by
  decide
theorem witness_HostResetSetsTheRegisters :
    (bench 0x8000 [] []).peek 0xFFFC = some 0x00 ∧ (bench 0x8000 [] []).peek 0xFFFD = some 0x80 ∧
    State.reset.mapper.isNrom = true ∧ gapped.peek 0xFFFC = some 0x00 ∧ gapped.peek 0xFFFD = none := by
  decide
theorem witness_PushWritesAndDecrements : ¬ SameByte (stackAddr 0x00) 0x01FF ∧ ¬ SameByte (stackAddr 0xFF) 0x0100 := by
  decide
theorem witness_SetZnFollowsTheResult : Flag.c ≠ .z ∧ Flag.c ≠ .n := by
  decide
theorem witness_CompareIsUnsigned : Flag.v ≠ .c ∧ Flag.v ≠ .z ∧ Flag.v ≠ .n := by
  decide
theorem witness_ShiftsAndRotatesOnNumbers : Flag.v ≠ .z ∧ Flag.v ≠ .n ∧ Flag.v ≠ .c := by
  decide
/-- A pointer at 0xFF: its high byte lies at 0x00. -/
theorem witness_EffectiveAddressOfEachMode :
    (0x00FF : Addr).toNat = ((0xFF : Byte).toNat + State.reset.x.toNat) % 0x100 ∧
    (0x0000 : Addr).toNat = ((0x00FF : Addr).toNat + 1) % 0x100 ∧ (0x00FF : Addr).toNat = (0xFF : Byte).toNat ∧
    State.reset.peek 0x00FF = some 0 ∧ State.reset.peek 0x0000 = some 0 ∧ (Instr.ldxZpy 0).mode = some .zpy := by
  decide
theorem witness_AccessClassesHaveTheirOperands :
    (Instr.ldaImm 0).source = some (.imm 0) ∧ (Instr.staAbs 0).dest = some (.abs 0) ∧
    (Instr.incZp 0).target = some (.mem (.zp 0)) ∧ Instr.aslAcc.target = some .acc := by
  decide
theorem witness_EachOperandIsAccessedOnce :
    withDevice.ext = .device ∧ unmapped (effAddr (.abs 0x2000) withDevice) ∧ unmapped (effAddr (.abs 0x7FFF) withDevice) ∧
    (Instr.ldaAbs 0x2000).source = some (.mem (.abs 0x2000)) ∧ (Instr.staAbs 0x2000).dest = some (.abs 0x2000) ∧
    (Instr.incAbs 0x7FFF).target = some (.mem (.abs 0x7FFF)) := by
  decide

/-- Where an operand can be read, and where it cannot. -/
theorem witness_readable (s : State) :
    readSource (.imm 0x80) (s.advance 2) = .ok (0x80, s.advance 2) ∧
    readSource (.mem (.abs 0x1FFF)) (State.reset.advance 3) = .ok (0x00, State.reset.advance 3) ∧
    readSource (.mem (.abs 0x2000)) (State.reset.advance 3) = .error (.invalidBusAddress 0x2000 .read []) :=
  ⟨rfl, rfl, rfl⟩
theorem witness_LoadInstructions :
    (Instr.ldaAbs 0x1FFF).source = some (.mem (.abs 0x1FFF)) ∧ (Instr.ldaAbs 0x1FFF).mnemonic = .LDA ∧
    (Instr.ldxImm 0x80).source = some (.imm 0x80) ∧ (Instr.ldxImm 0x80).mnemonic = .LDX ∧
    (Instr.ldyAbs 0x2000).source = some (.mem (.abs 0x2000)) ∧ (Instr.ldyAbs 0x2000).mnemonic = .LDY ∧
    (Instr.ldaAbs 0x2000).length = 3 ∧ (Instr.ldxImm 0x80).length = 2 := by
  decide
theorem witness_StoreInstructions :
    (Instr.staAbs 0x1FFF).dest = some (.abs 0x1FFF) ∧ (Instr.stxZpy 0xFF).dest = some (.zpy 0xFF) ∧
    (Instr.styAbs 0x2000).dest = some (.abs 0x2000) ∧
    (∃ t, busWrite (effAddr (.abs 0x1FFF) State.reset) 0x55 (State.reset.advance 3) = .ok t) ∧
    busWrite (effAddr (.abs 0x2000) State.reset) 0x55 (State.reset.advance 3) = .error (.invalidBusAddress 0x2000 .write []) :=
  ⟨rfl, rfl, rfl, ⟨_, rfl⟩, rfl⟩
theorem witness_AddAndSubtractInstructions :
    (Instr.adcAbs 0x1FFF).source = some (.mem (.abs 0x1FFF)) ∧ (Instr.adcAbs 0x1FFF).mnemonic = .ADC ∧
    (Instr.sbcAbs 0x2000).source = some (.mem (.abs 0x2000)) ∧ (Instr.sbcAbs 0x2000).mnemonic = .SBC := by
  decide
theorem witness_LogicInstructions :
    (Instr.andAbs 0x1FFF).source = some (.mem (.abs 0x1FFF)) ∧ (Instr.andAbs 0x1FFF).mnemonic = .AND ∧
    (Instr.oraAbs 0x2000).mnemonic = .ORA ∧ (Instr.eorImm 0x80).source = some (.imm 0x80) ∧
    (Instr.eorImm 0x80).mnemonic = .EOR ∧ (Instr.bitAbs 0x2000).source = some (.mem (.abs 0x2000)) ∧
    (Instr.bitAbs 0x2000).mnemonic = .BIT := by
  decide
theorem witness_CompareInstructions :
    (Instr.cmpAbs 0x1FFF).source = some (.mem (.abs 0x1FFF)) ∧ (Instr.cmpAbs 0x1FFF).mnemonic = .CMP ∧
    (Instr.cpxImm 0x80).source = some (.imm 0x80) ∧ (Instr.cpxImm 0x80).mnemonic = .CPX ∧
    (Instr.cpyAbs 0x2000).source = some (.mem (.abs 0x2000)) ∧ (Instr.cpyAbs 0x2000).mnemonic = .CPY := by
  decide
/-- A read-modify-write in RAM and in ROM, where both accesses succeed, and at an unmapped address. -/
theorem witness_modifiable :
    (∃ t u, busRead (effAddr (.abs 0x1FFF) State.reset) (State.reset.advance 3) = .ok (0x00, t) ∧
      busWrite (effAddr (.abs 0x1FFF) State.reset) 0x01 t = .ok u) ∧
    (∃ t u, busRead (effAddr (.abs 0x8000) State.reset) (State.reset.advance 3) = .ok (0x00, t) ∧
      busWrite (effAddr (.abs 0x8000) State.reset) 0x01 t = .ok u) ∧
    busRead (effAddr (.abs 0x2000) State.reset) (State.reset.advance 3) = .error (.invalidBusAddress 0x2000 .read []) :=
  ⟨⟨_, _, rfl, rfl⟩, ⟨_, _, rfl, rfl⟩, rfl⟩
theorem witness_IncrementAndDecrementInstructions :
    (Instr.incAbs 0x1FFF).target = some (.mem (.abs 0x1FFF)) ∧ (Instr.incAbs 0x1FFF).mnemonic = .INC ∧
    (Instr.decAbs 0x2000).target = some (.mem (.abs 0x2000)) ∧ (Instr.decAbs 0x2000).mnemonic = .DEC ∧
    (Instr.decAbs 0x2000).length = 3 := by
  decide
theorem witness_ShiftAndRotateInstructions :
    (Instr.aslAcc.mnemonic = .ASL ∧ Instr.aslAcc.target = some .acc) ∧
    ((Instr.lsrAbs 0x1FFF).mnemonic = .LSR ∧ (Instr.lsrAbs 0x1FFF).target = some (.mem (.abs 0x1FFF))) ∧
    ((Instr.rolAbs 0x8000).mnemonic = .ROL ∧ (Instr.rolAbs 0x8000).target = some (.mem (.abs 0x8000))) ∧
    ((Instr.rorAbs 0x2000).mnemonic = .ROR ∧ (Instr.rorAbs 0x2000).target = some (.mem (.abs 0x2000))) := by
  decide
/-- A pointer at the end of a page, its high byte at the page's start, and an unmapped pointer. -/
theorem witness_JumpInstructions :
    (0x0200 : Addr).toNat = (0x02FF : Addr).toNat / 0x100 * 0x100 + ((0x02FF : Addr).toNat + 1) % 0x100 ∧
    (bench 0x8000 [] [(0x200, 0x12), (0x2FF, 0x34)]).peek 0x02FF = some 0x34 ∧
    (bench 0x8000 [] [(0x200, 0x12), (0x2FF, 0x34)]).peek 0x0200 = some 0x12 ∧
    busRead 0x02FF (State.reset.advance 3) = .ok (0x00, State.reset.advance 3) ∧
    busRead 0x0200 (State.reset.advance 3) = .ok (0x00, State.reset.advance 3) ∧
    busRead 0x2000 (State.reset.advance 3) = .error (.invalidBusAddress 0x2000 .read []) :=
  ⟨rfl, rfl, rfl, rfl, rfl, rfl⟩
theorem witness_BranchInstructions :
    (Instr.bcc 0x80 = .bcc 0x80 ∧ true = !flag .c State.reset.p) ∧ (Instr.bvs 0x7F = .bvs 0x7F ∧ false = flag .v State.reset.p) := by
  decide
theorem witness_BreakTakesTheTrap :
    (bench 0x8000 [] []).peek 0xFFFE = some 0x00 ∧ (bench 0x8000 [] []).peek 0xFFFF = some 0x90 ∧
    (bench 0x8000 [] []).mapper.isNrom = true := by
  decide
theorem witness_IllegalOpcodeIsReported :
    isIllegalOpcode 0x02 = true ∧ isIllegalOpcode 0xFF = true ∧ isIllegalOpcode 0x00 = false ∧
    (bench 0x8000 [0x02] []).peek (bench 0x8000 [0x02] []).pc = some 0x02 := by
  decide
theorem witness_CallsAndTrapsReturn : ∃ t, exec .brk (bench 0x8000 [] []) = .next t := ⟨_, rfl⟩
theorem witness_OnlyListedFlagsChange : (∃ t, exec .sec State.reset = .next t) ∧ Flag.z ∉ listedFlags Instr.sec.mnemonic :=
  ⟨⟨_, rfl⟩, by decide⟩
theorem witness_OnlyListedRegistersChange :
    (∃ t, exec .tax State.reset = .next t) ∧ writesA .tax = false ∧ Instr.tay.mnemonic ∉ writesX ∧
    Instr.tax.mnemonic ∉ writesY ∧ Instr.tax.mnemonic ∉ writesS ∧ Instr.tax.mnemonic ≠ .TXS :=
  ⟨⟨_, rfl⟩, by decide, by decide, by decide, by decide, by decide⟩
theorem witness_ProgramCounterAdvancesByLength :
    (∃ t, exec (.bcs 0x10) State.reset = .next t) ∧ (Instr.bcs 0x10).mnemonic ∉ [.JMP, .JSR, .RTS, .RTI, .BRK] ∧
    branchCondition (Instr.bcs 0x10).mnemonic State.reset.p ≠ some true ∧ (Instr.bcs 0x10).mode = some .rel ∧
    (Instr.illegal 0x02).mode = none :=
  ⟨⟨_, rfl⟩, by decide, by decide, by decide, by decide⟩
theorem witness_NonStoringInstructionsKeepMemory :
    (∃ t, exec (.cmpAbs 0x1FFF) State.reset = .next t) ∧ (Instr.cmpAbs 0x1FFF).dest = none ∧
    (Instr.cmpAbs 0x1FFF).target = none ∧ pushCount (Instr.cmpAbs 0x1FFF).mnemonic = 0 :=
  ⟨⟨_, rfl⟩, rfl, rfl, rfl⟩
theorem witness_StoresTouchOnlyTheirByte :
    (∃ t, exec (.staAbs 0x1FFF) State.reset = .next t) ∧ (Instr.staAbs 0x1FFF).dest = some (.abs 0x1FFF) ∧
    (∃ t, exec (.incAbs 0x8000) State.reset = .next t) ∧ (Instr.incAbs 0x8000).target = some (.mem (.abs 0x8000)) ∧
    (effAddr (.abs 0x1FFF) State.reset).toNat < 0x2000 ∧ 0x2000 ≤ (effAddr (.abs 0x8000) State.reset).toNat ∧
    State.reset.mapper.isNrom = true ∧ ¬ SameByte 0x1FFF 0x07FE ∧
    (∃ t, exec (.staAbs 0x8000) withMapper = .next t) ∧ withMapper.mapper = .translated 2 0xC000 banked :=
  ⟨⟨_, rfl⟩, rfl, ⟨_, rfl⟩, rfl, by decide, by decide, rfl, by decide, ⟨_, rfl⟩, rfl⟩
theorem witness_PushesTouchOnlyTheirStackBytes :
    (∃ t, exec (.jsr 0x9000) State.reset = .next t) ∧ 0 < pushCount (Instr.jsr 0x9000).mnemonic ∧
    ∀ k, k < 2 → ¬ SameByte (stackAddr (State.reset.sp - BitVec.ofNat 8 k)) 0x01FD :=
  ⟨⟨_, rfl⟩, by decide, by decide⟩
theorem witness_WarningsComeFromStackWraps :
    (∃ t, exec .brk { State.reset with sp := 0x01 } = .next t) ∧ ({ State.reset with sp := 0x00 } : State).sp = 0x00 ∧
    State.reset.sp = 0xFF :=
  ⟨⟨_, rfl⟩, rfl, rfl⟩
theorem witness_ConfigurationIsNeverWritten :
    (∃ t, Reaches (bench 0x8000 [0xEA] []) t ∧ t ≠ bench 0x8000 [0xEA] []) ∧ (bench 0x8000 [0xEA] []).mapper.isNrom = true :=
  ⟨⟨_, .step rfl (.refl _), by decide⟩, rfl⟩
/-- An instruction with no unmapped access, one that stops at its first, and one whose both accesses are unmapped. -/
theorem witness_ExecStopsExactlyAtAnUnmappedAccess :
    State.reset.plainMap ∧ (∀ x ∈ accesses (.ldaAbs 0x1FFF) State.reset, ¬ unmapped x.1) ∧
    accesses (.incAbs 0x2000) State.reset = [] ++ (0x2000, .read) :: [(0x2000, .write)] ∧ unmapped 0x2000 ∧
    accesses (.staAbs 0x7FFF) State.reset = [] ++ (0x7FFF, .write) :: [] ∧ unmapped 0x7FFF := by
  decide
theorem witness_StepRunsTheDecodedInstruction :
    (bench 0x8000 [0x6C, 0x34, 0x12] []).peek 0x8000 = some 0x6C ∧ (bench 0x8000 [0x6C, 0x34, 0x12] []).peek 0x8001 = some 0x34 ∧
    (bench 0x8000 [0x6C, 0x34, 0x12] []).peek 0x8002 = some 0x12 ∧
    decode [0x6C, 0x34, 0x12] = .ok (.jmpInd 0x1234, []) ∧
    (∃ t, fetch { bench 0x8000 [0xEA] [] with warnings := [], error := none } = .ok (.nop, t)) ∧
    fetch { { State.reset with pc := 0x2000 } with warnings := [], error := none } = .error (.invalidBusAddress 0x2000 .read []) :=
  ⟨by decide, by decide, by decide, rfl, ⟨_, rfl⟩, rfl⟩
/-- A fetch that fails at its first, second and third byte, and fetches of one, two and three bytes. -/
theorem witness_FetchReadsOpcodeThenOperands :
    busRead 0x2000 { State.reset with pc := 0x2000 } = .error (.invalidBusAddress 0x2000 .read []) ∧
    (∃ t f, busRead 0x1FFF { State.reset with pc := 0x1FFF, ram := [(0x7FF, 0xA9)] } = .ok (0xA9, t) ∧
      operandCount 0xA9 = 1 ∧ busRead (0x1FFF + 1) t = .error f) ∧
    (∃ t u f, busRead 0x1FFE { State.reset with pc := 0x1FFE, ram := [(0x7FE, 0xAD)] } = .ok (0xAD, t) ∧
      operandCount 0xAD = 2 ∧ busRead (0x1FFE + 1) t = .ok (0x00, u) ∧ busRead (0x1FFE + 2) u = .error f) ∧
    (∃ t, busRead 0x8000 (bench 0x8000 [0xEA] []) = .ok (0xEA, t) ∧ operandCount 0xEA = 0) ∧
    (∃ t u, busRead 0x8000 (bench 0x8000 [0xA9, 0x01] []) = .ok (0xA9, t) ∧ busRead 0x8001 t = .ok (0x01, u)) ∧
    (∃ t u w, busRead 0x8000 (bench 0x8000 [0xAD, 0x34, 0x12] []) = .ok (0xAD, t) ∧ busRead 0x8001 t = .ok (0x34, u) ∧
      busRead 0x8002 u = .ok (0x12, w)) ∧
    (∃ t, fetch (bench 0x8000 [0xAD, 0x34, 0x12] []) = .ok (.ldaAbs 0x1234, t)) ∧
    State.reset.plainMap ∧ ¬ unmapped 0xFFFE ∧ ¬ unmapped (0xFFFE + 1) ∧ ¬ unmapped (0xFFFE + 2) :=
  ⟨rfl, ⟨_, _, rfl, rfl, rfl⟩, ⟨_, _, _, rfl, rfl, rfl, rfl⟩, ⟨_, busRead_of_peek (by decide), rfl⟩,
    ⟨_, _, busRead_of_peek (by decide), busRead_of_peek (by decide)⟩,
    ⟨_, _, _, busRead_of_peek (by decide), busRead_of_peek (by decide), busRead_of_peek (by decide)⟩,
    ⟨_, rfl⟩, by decide, by decide, by decide, by decide⟩
theorem witness_StepKeepsWellFormedStates : State.reset.wf ∧ ∃ t, step State.reset = .next t := ⟨by decide, _, rfl⟩
theorem witness_UnusedStatusBitsAreInert :
    (∃ t, step State.reset = .next t) ∧ ∃ t, hostReset 0x30 (bench 0x8000 [] []) = .ok t := ⟨⟨_, rfl⟩, _, rfl⟩
theorem witness_DecimalAndInterruptFlagsAreInert :
    (Instr.adcImm 1).mnemonic ∉ [.PHP, .BRK, .PLP, .RTI] ∧ Flag.d ∉ listedFlags (Instr.adcImm 1).mnemonic ∧
    (∃ t, exec .sed State.reset = .next t) ∧ (∃ t, exec .cld State.reset = .next t) ∧
    (∃ t, exec .sei State.reset = .next t) ∧ (∃ t, exec .cli State.reset = .next t) ∧
    (∃ t, exec .brk State.reset = .next t) ∧ (∃ t, exec .plp State.reset = .next t) ∧
    (∃ t, exec .rti State.reset = .next t) ∧ (∃ t, exec .php State.reset = .next t) :=
  ⟨by decide, by decide, ⟨_, rfl⟩, ⟨_, rfl⟩, ⟨_, rfl⟩, ⟨_, rfl⟩, ⟨_, rfl⟩, ⟨_, rfl⟩, ⟨_, rfl⟩, ⟨_, rfl⟩⟩
theorem witness_StepStopsOnlyAtUnmappedAddresses : State.reset.plainMap ∧ Reaches State.reset State.reset :=
  ⟨by decide, .refl _⟩
theorem witness_DecodeOfEncodeIsTheInstruction : (Instr.ldaAbs 0xFFFF).wf = true ∧ (Instr.illegal 0xFF).wf = true := by
  decide
theorem witness_EncodeOfDecodeIsTheBytes : decode [0xB1, 0x10, 0xEA] = .ok (.ldaIndy 0x10, [0xEA]) := rfl
theorem witness_OpcodeAloneFixesModeAndLength : decode [0xAD, 0x34, 0x12, 0x00] = .ok (.ldaAbs 0x1234, [0x00]) := rfl
theorem witness_MemoryIsEqualByItsBytes :
    Memory.wf [(0, 1), (0x7FF, 2)] ∧ Memory.wf (Memory.write [(0, 1)] 0x7FF 2) ∧
    Memory.write [(0, 1)] 0x7FF 2 = [(0, 1), (0x7FF, 2)] := by
  decide

end Sys2Proof.Tests
end

section
/-! PROOFS. The counts of R3. The mnemonics and the modes of the descriptor map are read off its 256 entries once, without
repetition; the counts, and that no mnemonic is missing, follow from the two lists. -/

namespace Sys2Proof

/-- The mnemonics of R115's map, opcode byte by opcode byte. -/
def opcodeMnemonics : List Mnemonic := (List.range 256).map fun n => (instrOf (BitVec.ofNat 8 n) 0 0).mnemonic

/-- The modes of R115's map, opcode byte by opcode byte; an illegal byte has none. -/
def opcodeModes : List Mode := (List.range 256).filterMap fun n => (instrOf (BitVec.ofNat 8 n) 0 0).mode

/-- The mnemonics in the order in which R115's map first names them. -/
def mnemonicsByFirstOpcode : List Mnemonic :=
  [.BRK, .ORA, .ILLEGAL, .ASL, .PHP, .BPL, .CLC, .JSR, .AND, .BIT, .ROL, .PLP, .BMI, .SEC, .RTI, .EOR, .LSR, .PHA, .JMP,
    .BVC, .CLI, .RTS, .ADC, .ROR, .PLA, .BVS, .SEI, .STA, .STY, .STX, .DEY, .TXA, .BCC, .TYA, .TXS, .LDY, .LDA, .LDX,
    .TAY, .TAX, .BCS, .CLV, .TSX, .CPY, .CMP, .DEC, .INY, .DEX, .BNE, .CLD, .CPX, .SBC, .INC, .INX, .NOP, .BEQ, .SED]

theorem opcodeMnemonics_eraseDups : opcodeMnemonics.eraseDups = mnemonicsByFirstOpcode := by
  decide +kernel

theorem opcodeModes_eraseDups : opcodeModes.eraseDups =
    [.imp, .indx, .zp, .imm, .acc, .abs, .rel, .indy, .zpx, .absy, .absx, .ind, .zpy] := by
  decide +kernel

/-- R115: 105 of the 256 bytes are dashes of the map, the other 151 select a documented instruction. -/
theorem documentedOpcodes_length :
    ((List.range 256).filter fun n => (instrOf (BitVec.ofNat 8 n) 0 0).mnemonic != .ILLEGAL).length = 151 := by
  decide +kernel

theorem mem_mnemonicsByFirstOpcode (m : Mnemonic) : m ∈ mnemonicsByFirstOpcode := by
  cases m <;> decide

theorem mem_opcodeMnemonics (m : Mnemonic) : m ∈ opcodeMnemonics := by
  rw [← List.mem_eraseDups, opcodeMnemonics_eraseDups]
  exact mem_mnemonicsByFirstOpcode m

/-- R119: the opcode byte found with zero operand bytes serves for all operand bytes. -/
theorem exists_opcode_of_mnemonic (m : Mnemonic) : ∃ op : Byte, ∀ b1 b2 : Byte, (instrOf op b1 b2).mnemonic = m := by
  obtain ⟨n, -, hn⟩ := List.mem_map.mp (mem_opcodeMnemonics m)
  exact ⟨BitVec.ofNat 8 n, fun b1 b2 => (instrOf_shape_of_opcode _ b1 b2).1.trans hn⟩

/-- Settles O58: the counts are the lengths of the two lists, and each mnemonic is in the first. -/
theorem opcodeMapHasItsCounts : Obligations.OpcodeMapHasItsCounts := by
  refine ⟨documentedOpcodes_length, ?_, exists_opcode_of_mnemonic, ?_⟩
  · change (opcodeMnemonics.eraseDups.filter (· != .ILLEGAL)).length = 56
    rw [opcodeMnemonics_eraseDups]
    rfl
  · change opcodeModes.eraseDups.length = 13
    rw [opcodeModes_eraseDups]
    rfl

end Sys2Proof
end

section
/-! PROOFS. The status flags an instruction leaves alone (R38, R48): what each flag computation keeps, then each class of
instruction. -/

namespace Sys2Proof.Machine

/-- R40: SetZN writes N and Z only. -/
theorem flag_setZN_of_unlisted {f : Flag} (hf : f ∉ [Flag.n, .z]) (r p : Byte) : flag f (setZN r p) = flag f p := by
  simp only [List.mem_cons, List.not_mem_nil, or_false, not_or] at hf
  rw [flag_setZN, if_neg hf.1, if_neg hf.2]

/-- R200, R201: ADC and SBC write N, V, Z and C only. -/
theorem flag_setSum_of_unlisted {f : Flag} (hf : f ∉ [Flag.n, .v, .z, .c]) (r : Sum) (p : Byte) :
    flag f (setSum r p) = flag f p := by
  simp only [List.mem_cons, List.not_mem_nil, or_false, not_or] at hf
  obtain ⟨hn, hv, hz, hc⟩ := hf
  rw [flag_setSum, if_neg hn, if_neg hz, if_neg hv, if_neg hc]

/-- R43: Compare writes N, Z and C only. -/
theorem flag_compareFlags_of_unlisted {f : Flag} (hf : f ∉ [Flag.n, .z, .c]) (reg m p : Byte) :
    flag f (compareFlags reg m p) = flag f p := by
  simp only [List.mem_cons, List.not_mem_nil, or_false, not_or] at hf
  obtain ⟨hn, hz, hc⟩ := hf
  rw [flag_compareFlags, if_neg hn, if_neg hz, if_neg hc]

/-- R205: BIT writes N, V and Z only. -/
theorem flag_bitTest_of_unlisted {f : Flag} (hf : f ∉ [Flag.n, .v, .z]) (a m p : Byte) :
    flag f (bitTest a m p) = flag f p := by
  simp only [List.mem_cons, List.not_mem_nil, or_false, not_or] at hf
  obtain ⟨hn, hv, hz⟩ := hf
  rw [flag_bitTest, if_neg hv, if_neg hn, if_neg hz]

/-- What a shift or rotate leaves in each flag: the bit shifted out in C, N and Z of the result (R44). -/
theorem flag_setZN_setFlag_c (f : Flag) (r : Byte) (out : Bool) (p : Byte) : flag f (setZN r (setFlag .c out p)) =
    if f = .n then r.msb else if f = .z then r == 0 else if f = .c then out else flag f p := by
  rw [flag_setZN, flag_setFlag]

/-- R44: the shifts and rotates write N, Z and C only. -/
theorem flag_setZN_setFlag_c_of_unlisted {f : Flag} (hf : f ∉ [Flag.n, .z, .c]) (r : Byte) (out : Bool) (p : Byte) :
    flag f (setZN r (setFlag .c out p)) = flag f p := by
  simp only [List.mem_cons, List.not_mem_nil, or_false, not_or] at hf
  obtain ⟨hn, hz, hc⟩ := hf
  rw [flag_setZN_setFlag_c, if_neg hn, if_neg hz, if_neg hc]

theorem flag_setFlag_of_unlisted {f g : Flag} (hf : f ∉ [g]) (on : Bool) (p : Byte) :
    flag f (setFlag g on p) = flag f p :=
  flag_setFlag_other (fun e => hf (List.mem_singleton.mpr e)) on p

theorem flag_pulledStatus_of_unlisted {f : Flag} (hf : f ∉ [Flag.n, .v, .d, .i, .z, .c]) (v p : Byte) :
    flag f (pulledStatus v p) = flag f p := by
  rw [flag_pulledStatus, if_pos (by cases f <;> simp_all)]

/-- The instructions of class read. -/
theorem flag_readEffect_of_unlisted {m : Mnemonic} {f : Flag} (hf : f ∉ listedFlags m) (v : Byte) (t : State) :
    flag f (readEffect m v t).p = flag f t.p := by
  cases m
  case LDA | LDX | LDY | AND | ORA | EOR => exact flag_setZN_of_unlisted hf _ _
  case ADC | SBC => exact flag_setSum_of_unlisted hf _ _
  case CMP | CPX | CPY => exact flag_compareFlags_of_unlisted hf _ _ _
  case BIT => exact flag_bitTest_of_unlisted hf _ _ _
  all_goals rfl

/-- The shifts, rotates, INC and DEC. -/
theorem flag_modifyOp_of_unlisted {m : Mnemonic} {f : Flag} (hf : f ∉ listedFlags m) (v p : Byte) :
    flag f (modifyOp m v p).status = flag f p := by
  cases m
  case ASL | LSR | ROL | ROR => exact flag_setZN_setFlag_c_of_unlisted hf _ _ _
  case INC | DEC => exact flag_setZN_of_unlisted hf _ _
  all_goals rfl

/-- Taking the trap writes I only (R278). -/
theorem takeTrap_p {ret : Addr} {s t : State} (h : takeTrap ret s = .ok t) : t.p = setFlag .i true s.p := by
  obtain ⟨w, u, hr, rfl⟩ := takeTrap_ok h
  have hu : u = _ := readWord_state hr
  rw [hu]
  rfl

theorem execBrk_next {s t : State} (h : exec .brk s = .next t) : takeTrap (s.pc + 2) s = .ok t := by
  change answer (takeTrap (s.pc + 2) s) = .next t at h
  cases e : takeTrap (s.pc + 2) s with
  | error f => rw [e] at h; cases h
  | ok u => rw [e] at h; cases h; rfl

theorem execJmpInd_p {w : Addr} {s t : State} (h : exec (.jmpInd w) s = .next t) : t.p = s.p := by
  change execJmpInd w s = .next t at h
  unfold execJmpInd at h
  split at h
  · next target u hr =>
    cases h
    have hu : u = _ := readWord_state hr
    rw [hu]
    rfl
  · cases h

theorem branch_p {taken : Bool} {r : Byte} {s t : State} (h : branch taken r s = .next t) : t.p = s.p := by
  cases taken <;> cases h <;> rfl

theorem pop_p (s : State) : (pop s).2.p = s.p := by rw [pop_eq]

theorem popWord_p (s : State) : (popWord s).2.p = s.p := by rw [popWord_eq]

theorem push_p (v : Byte) (s : State) : (push v s).p = s.p := by rw [push_eq]

theorem pushWord_p (w : Addr) (s : State) : (pushWord w s).p = s.p := by rw [pushWord_eq]

theorem exec_pla (s : State) : exec .pla s = .next (((pop (s.advance 1)).2.setA (pop (s.advance 1)).1).setP
    (setZN (pop (s.advance 1)).1 (pop (s.advance 1)).2.p)) := rfl

theorem exec_rts (s : State) : exec .rts s = .next ((popWord s).2.setPc ((popWord s).1 + 1)) := rfl

/-- The trap return pulls P before PC (R279). -/
theorem returnFromTrap_p (s : State) :
    (returnFromTrap s).p = pulledStatus (s.ram.read (stackIndex (s.sp + 1))) s.p := by
  simp only [returnFromTrap_eq, popWord_eq, pullStatus_eq, State.setPc_p]

/-- The instructions without an operand. -/
theorem flag_exec_noOperand {i : Instr} {s t : State} {f : Flag} (hs : i.source = none) (hd : i.dest = none)
    (ht : i.target = none) (h : exec i s = .next t) (hf : f ∉ listedFlags i.mnemonic) : flag f t.p = flag f s.p := by
  cases i
  case tax | tay | txa | tya | tsx | inx | iny | dex | dey => cases h; exact flag_setZN_of_unlisted hf _ _
  case pla => rw [exec_pla] at h; cases h; exact (flag_setZN_of_unlisted hf _ _).trans (by rw [pop_p, State.advance_p])
  case pha | php => cases h; rw [push_p, State.advance_p]
  case jsr w => cases h; rw [State.setPc_p, pushWord_p]
  case rts => rw [exec_rts] at h; cases h; rw [State.setPc_p, popWord_p]
  case plp => cases h; rw [pullStatus_eq]; exact flag_pulledStatus_of_unlisted hf _ _
  case rti => cases h; rw [returnFromTrap_p]; exact flag_pulledStatus_of_unlisted hf _ _
  case brk => rw [takeTrap_p (execBrk_next h)]; exact flag_setFlag_of_unlisted hf _ _
  case clc | sec | cli | sei | clv | cld | sed => cases h; exact flag_setFlag_of_unlisted hf _ _
  case bcc | bcs | beq | bne | bmi | bpl | bvc | bvs => rw [branch_p h]
  case jmpInd w => rw [execJmpInd_p h]
  case txs | jmpAbs | nop | illegal => cases h; rfl
  all_goals cases hs <;> cases hd <;> cases ht

theorem readSource_p {src : Source} {s t : State} {v : Byte} (h : readSource src s = .ok (v, t)) : t.p = s.p :=
  (congrArg State.p (readSource_state h)).trans rfl

theorem busRead_p {a : Addr} {s t : State} {v : Byte} (h : busRead a s = .ok (v, t)) : t.p = s.p :=
  (congrArg State.p (busRead_state h)).trans rfl

theorem busWrite_p {a : Addr} {s t : State} {v : Byte} (h : busWrite a v s = .ok t) : t.p = s.p :=
  (congrArg State.p (busWrite_state h)).trans rfl

/-- Settles O40: an instruction with an operand writes P from the flag computation of its class, and an access writes none. -/
theorem onlyListedFlagsChange : Obligations.OnlyListedFlagsChange := by
  intro i s t f h hf
  rcases exec_next h with ⟨src, v, u, -, hr, rfl⟩ | ⟨m, -, hw⟩ | ⟨m, v, u, w, -, hr, -, rfl⟩ | ⟨-, rfl⟩ | ⟨hs, hd, ht⟩
  · rw [flag_readEffect_of_unlisted hf, readSource_p hr, State.advance_p]
  · rw [busWrite_p hw, State.advance_p]
  · rw [State.setP_p, flag_modifyOp_of_unlisted hf, busRead_p hr, State.advance_p]
  · rw [State.setP_p, flag_modifyOp_of_unlisted hf]
  · exact flag_exec_noOperand hs hd ht h hf

end Sys2Proof.Machine
end

section
/-! PROOFS. Noninterference of the status bits that nothing tests (R39, R45, R46). A map of P that fixes some of the bits
U, B, D and I and keeps every other bit commutes with each flag computation, hence with each access and each instruction:
run from the mapped state, an instruction gives the mapped outcome. -/

namespace Sys2Proof.Machine

/-- The state with P mapped. -/
def State.mapP (g : Byte → Byte) (s : State) : State := s.setP (g s.p)

/-! Accesses and shared shapes: none of them reads P. -/

section
variable (g : Byte → Byte) (s : State)

@[simp] theorem State.mapP_a : (s.mapP g).a = s.a := rfl
@[simp] theorem State.mapP_p : (s.mapP g).p = g s.p := rfl
@[simp] theorem State.mapP_pc : (s.mapP g).pc = s.pc := rfl
@[simp] theorem State.mapP_mapper : (s.mapP g).mapper = s.mapper := rfl
@[simp] theorem State.mapP_ext : (s.mapP g).ext = s.ext := rfl
@[simp] theorem State.mapP_extLog : (s.mapP g).extLog = s.extLog := rfl
@[simp] theorem State.mapP_cartRead (a : Addr) : (s.mapP g).cartRead a = s.cartRead a := rfl
@[simp] theorem State.mapP_advance (n : Nat) : (s.mapP g).advance n = (s.advance n).mapP g := rfl
@[simp] theorem effAddr_mapP (m : Addressed) : effAddr m (s.mapP g) = effAddr m s := rfl
@[simp] theorem storedByte_mapP (m : Mnemonic) : storedByte m (s.mapP g) = storedByte m s := rfl

/-- Mapping a written status is writing the mapped one. -/
theorem State.setP_mapP {p q : Byte} (h : q = g p) : (s.setP p).mapP g = (s.mapP g).setP q := by
  rw [h]; rfl

theorem busRead_mapP (a : Addr) : busRead a (s.mapP g) = (busRead a s).map (Prod.map id (State.mapP g)) := by
  unfold busRead
  cases region a with
  | ram k => rfl
  | cart => simp only [State.mapP_cartRead]; cases s.cartRead a <;> rfl
  | ext =>
    simp only [State.mapP_ext, State.mapP_extLog]
    cases s.ext with
    | empty => rfl
    | device => cases Config.extRead s.extLog a <;> rfl

theorem cartWrite_mapP (a : Addr) (v : Byte) : (s.mapP g).cartWrite a v = (s.cartWrite a v).mapP g := by
  simp only [State.cartWrite, State.mapP_mapper]
  cases s.mapper <;> rfl

theorem busWrite_mapP (a : Addr) (v : Byte) : busWrite a v (s.mapP g) = (busWrite a v s).map (State.mapP g) := by
  unfold busWrite
  cases region a with
  | ram k => rfl
  | cart => exact congrArg Except.ok (cartWrite_mapP g s a v)
  | ext =>
    simp only [State.mapP_ext, State.mapP_extLog]
    cases s.ext with
    | empty => rfl
    | device =>
      by_cases h : Config.extTakes s.extLog a v = true
      · simp only [h, if_true]; rfl
      · simp only [h]; rfl

theorem readWord_mapP (lo hi : Addr) :
    readWord lo hi (s.mapP g) = (readWord lo hi s).map (Prod.map id (State.mapP g)) := by
  unfold readWord
  rw [busRead_mapP]
  cases busRead lo s with
  | error f => rfl
  | ok r =>
    simp only [Except.map, Prod.map, busRead_mapP]
    cases busRead hi r.2 <;> rfl

theorem readSource_mapP (src : Source) :
    readSource src (s.mapP g) = (readSource src s).map (Prod.map id (State.mapP g)) := by
  cases src with
  | imm v => rfl
  | mem m => exact busRead_mapP g s (effAddr m s)

theorem push_mapP (v : Byte) : push v (s.mapP g) = (push v s).mapP g := by
  rw [push_eq, push_eq]; rfl

theorem pushWord_mapP (w : Addr) : pushWord w (s.mapP g) = (pushWord w s).mapP g := by
  rw [pushWord_eq, pushWord_eq]; rfl

theorem pop_mapP : pop (s.mapP g) = Prod.map id (State.mapP g) (pop s) := by
  rw [pop_eq, pop_eq]; rfl

theorem popWord_mapP : popWord (s.mapP g) = Prod.map id (State.mapP g) (popWord s) := by
  rw [popWord_eq, popWord_eq]; rfl

/-- R140: the fetch reads the bytes at PC. -/
theorem fetch_mapP : fetch (s.mapP g) = (fetch s).map (Prod.map id (State.mapP g)) := by
  unfold fetch
  simp only [State.mapP_pc, busRead_mapP]
  cases busRead s.pc s with
  | error f => rfl
  | ok r =>
    simp only [Except.map, Prod.map, id, busRead_mapP]
    generalize operandCount r.1 = n
    obtain _ | _ | n := n
    · rfl
    · cases busRead (s.pc + 1) r.2 <;> rfl
    · cases busRead (s.pc + 1) r.2 with
      | error f => rfl
      | ok r1 =>
        simp only [Except.map, Prod.map, busRead_mapP]
        cases busRead (s.pc + 2) r1.2 <;> rfl

theorem storeAt_mapP (m : Addressed) (v : Byte) : storeAt m v (s.mapP g) = mapNext (State.mapP g) (storeAt m v s) := by
  unfold storeAt
  rw [State.mapP_advance, effAddr_mapP, busWrite_mapP]
  cases busWrite (effAddr m s) v (s.advance (addressedLength m)) <;> rfl

/-- An effect that commutes with the map makes the whole instruction commute with it. -/
theorem withSource_mapP (src : Source) {k : Byte → State → State} (hk : ∀ v t, k v (t.mapP g) = (k v t).mapP g) :
    withSource src (s.mapP g) k = mapNext (State.mapP g) (withSource src s k) := by
  unfold withSource
  rw [State.mapP_advance, readSource_mapP]
  cases readSource src (s.advance (sourceLength src)) with
  | error f => rfl
  | ok r => exact congrArg Host.Outcome.next (hk r.1 r.2)

/-- A read-modify-write whose operation gives the same result and the mapped status. -/
theorem modifyTarget_mapP (t : Target) {op : Byte → Byte → Modified}
    (hop : ∀ v p, op v (g p) = { result := (op v p).result, status := g (op v p).status }) :
    modifyTarget op t (s.mapP g) = mapNext (State.mapP g) (modifyTarget op t s) := by
  cases t with
  | acc => simp only [modifyTarget, State.mapP_a, State.mapP_p, hop]; rfl
  | mem m =>
    simp only [modifyTarget, modifyAt, State.mapP_advance, effAddr_mapP, busRead_mapP]
    cases busRead (effAddr m s) (s.advance (addressedLength m)) with
    | error f => rfl
    | ok r =>
      simp only [Except.map, Prod.map, id, State.mapP_p, hop, busWrite_mapP]
      cases busWrite (effAddr m s) (op r.1 r.2.p).result r.2 <;> rfl

/-- An instruction that cannot fail. -/
theorem exec_mapP_of_next {g : Byte → Byte} {i : Instr} {s u u' : State} (h : exec i s = .next u)
    (h' : exec i (s.mapP g) = .next u') (e : u.mapP g = u') : exec i (s.mapP g) = mapNext (State.mapP g) (exec i s) := by
  rw [h, h', ← e]; rfl

/-- A branch whose condition is the same after the map. -/
theorem exec_mapP_of_branch {g : Byte → Byte} {i : Instr} {s : State} {taken taken' : Bool} {r : Byte}
    (h : exec i s = branch taken r s) (h' : exec i (s.mapP g) = branch taken' r (s.mapP g)) (e : taken' = taken) :
    exec i (s.mapP g) = mapNext (State.mapP g) (exec i s) := by
  rw [h, h', e]
  cases taken <;> rfl

end

/-! Flag computations: each is made of writes of single flags and tests N, V, Z and C only. -/

/-- The flags some instruction tests (R254-R261, R41, R232). -/
abbrev testedFlags : List Flag := [.n, .v, .z, .c]

/-- g gives each flag that pin names its fixed value and keeps every other one; the tested flags are among the kept. -/
structure Pins (pin : Flag → Option Bool) (g : Byte → Byte) : Prop where
  flag_map : ∀ f p, flag f (g p) = (pin f).getD (flag f p)
  keeps_tested : ∀ f ∈ testedFlags, pin f = none

namespace Pins
variable {pin : Flag → Option Bool} {g : Byte → Byte}

/-- Writing a flag that is not pinned commutes with the map. -/
theorem setFlag_free (hg : Pins pin g) {f : Flag} (hf : pin f = none) (on : Bool) (p : Byte) :
    setFlag f on (g p) = g (setFlag f on p) := by
  refine status_ext fun h => ?_
  rw [hg.flag_map, flag_setFlag, flag_setFlag, hg.flag_map]
  by_cases e : h = f
  · rw [if_pos e, if_pos e, e, hf, Option.getD_none]
  · rw [if_neg e, if_neg e]

theorem setFlag_tested (hg : Pins pin g) {f : Flag} (hf : f ∈ testedFlags) (on : Bool) (p : Byte) :
    setFlag f on (g p) = g (setFlag f on p) :=
  hg.setFlag_free (hg.keeps_tested f hf) on p

theorem flag_tested (hg : Pins pin g) {f : Flag} (hf : f ∈ testedFlags) (p : Byte) : flag f (g p) = flag f p := by
  rw [hg.flag_map, hg.keeps_tested f hf, Option.getD_none]

theorem setZN (hg : Pins pin g) (r p : Byte) : Machine.setZN r (g p) = g (Machine.setZN r p) := by
  simp (disch := simp) only [Machine.setZN, hg.setFlag_tested]

theorem setSum (hg : Pins pin g) (r : Sum) (p : Byte) : Machine.setSum r (g p) = g (Machine.setSum r p) := by
  simp (disch := simp) only [Machine.setSum, hg.setFlag_tested, hg.setZN]

theorem compareFlags (hg : Pins pin g) (reg m p : Byte) :
    Machine.compareFlags reg m (g p) = g (Machine.compareFlags reg m p) := by
  simp (disch := simp) only [Machine.compareFlags, hg.setFlag_tested]

theorem bitTest (hg : Pins pin g) (a m p : Byte) : Machine.bitTest a m (g p) = g (Machine.bitTest a m p) := by
  simp (disch := simp) only [Machine.bitTest, hg.setFlag_tested]

/-- The instructions of class read; ADC and SBC take C from the status and nothing else (R45). -/
theorem readEffect (hg : Pins pin g) (m : Mnemonic) (v : Byte) (t : State) :
    Machine.readEffect m v (t.mapP g) = (Machine.readEffect m v t).mapP g := by
  refine Eq.symm ?_
  cases m
  case LDA | LDX | LDY | AND | ORA | EOR => exact State.setP_mapP g _ (hg.setZN _ _)
  case ADC | SBC =>
    simp (disch := simp) only [Machine.readEffect, State.mapP_a, State.mapP_p, hg.flag_tested]
    exact State.setP_mapP g _ (hg.setSum _ _)
  case CMP | CPX | CPY => exact State.setP_mapP g _ (hg.compareFlags _ _ _)
  case BIT => exact State.setP_mapP g _ (hg.bitTest _ _ _)
  all_goals rfl

/-- The shifts, rotates, INC and DEC; the rotates take C from the status and nothing else. -/
theorem modifyOp (hg : Pins pin g) (m : Mnemonic) (v p : Byte) : Machine.modifyOp m v (g p) =
    { result := (Machine.modifyOp m v p).result, status := g (Machine.modifyOp m v p).status } := by
  cases m
  case ASL => simp (disch := simp) only [Machine.modifyOp, shiftLeft, hg.setFlag_tested, hg.setZN]
  case LSR => simp (disch := simp) only [Machine.modifyOp, shiftRight, hg.setFlag_tested, hg.setZN]
  case ROL => simp (disch := simp) only [Machine.modifyOp, rotateLeft, hg.flag_tested, hg.setFlag_tested, hg.setZN]
  case ROR => simp (disch := simp) only [Machine.modifyOp, rotateRight, hg.flag_tested, hg.setFlag_tested, hg.setZN]
  case INC => simp only [Machine.modifyOp, increment, hg.setZN]
  case DEC => simp only [Machine.modifyOp, decrement, hg.setZN]
  all_goals rfl

end Pins

/-! Instructions. -/

/-- Copying P to the stack does not show the map, and what is pulled goes under it. -/
structure CopiesBlindly (g : Byte → Byte) : Prop where
  pushedStatus_map : ∀ p, pushedStatus (g p) = pushedStatus p
  pulledStatus_map : ∀ v p, pulledStatus v (g p) = g (pulledStatus v p)

section
variable {pin : Flag → Option Bool} {g : Byte → Byte}

theorem CopiesBlindly.pullStatus (hc : CopiesBlindly g) (s : State) :
    (Machine.pullStatus s).mapP g = Machine.pullStatus (s.mapP g) := by
  simp only [Machine.pullStatus, pop_mapP, Prod.map, State.mapP_p]
  exact State.setP_mapP g _ (hc.pulledStatus_map _ _)

theorem CopiesBlindly.returnFromTrap (hc : CopiesBlindly g) (s : State) :
    (Machine.returnFromTrap s).mapP g = Machine.returnFromTrap (s.mapP g) := by
  rw [returnFromTrap_eq, returnFromTrap_eq, ← hc.pullStatus, popWord_mapP]
  rfl

theorem CopiesBlindly.takeTrap (hc : CopiesBlindly g) (hg : Pins pin g) (hi : pin .i = none) (ret : Addr) (s : State) :
    Machine.takeTrap ret (s.mapP g) = (Machine.takeTrap ret s).map (State.mapP g) := by
  unfold Machine.takeTrap
  simp only [pushWord_mapP, State.mapP_p, hc.pushedStatus_map, push_mapP]
  rw [← State.setP_mapP g _ (hg.setFlag_free hi _ _), read16, read16, readWord_mapP]
  cases readWord Config.brkVector (Config.brkVector + 1) _ <;> rfl

/-- The instructions without an operand. -/
theorem exec_noOperand_mapP (hg : Pins pin g) {i : Instr} (hl : ∀ f ∈ listedFlags i.mnemonic, pin f = none)
    (hc : i.mnemonic ∈ [.PHP, .BRK, .PLP, .RTI] → CopiesBlindly g)
    (hs : i.source = none) (hd : i.dest = none) (ht : i.target = none) (s : State) :
    exec i (s.mapP g) = mapNext (State.mapP g) (exec i s) := by
  cases i
  case tax | tay | txa | tya | tsx | inx | iny | dex | dey =>
    exact exec_mapP_of_next rfl rfl (State.setP_mapP g _ (hg.setZN _ _))
  case txs | jmpAbs | nop | illegal => rfl
  case pha => exact exec_mapP_of_next rfl rfl (push_mapP g (s.advance 1) s.a).symm
  case jsr w =>
    exact exec_mapP_of_next rfl rfl (congrArg (State.setPc · w) (pushWord_mapP g s (s.pc + 2)).symm)
  case pla =>
    refine exec_mapP_of_next (exec_pla s) (exec_pla _) ?_
    rw [State.mapP_advance, pop_mapP]
    exact State.setP_mapP g _ (hg.setZN _ _)
  case rts => rw [exec_rts, exec_rts, popWord_mapP]; rfl
  case php =>
    have hp : pushedStatus (g s.p) = pushedStatus s.p := (hc (by simp [Instr.mnemonic])).pushedStatus_map s.p
    refine exec_mapP_of_next rfl rfl ((push_mapP g (s.advance 1) _).symm.trans ?_)
    exact congrArg (push · ((s.advance 1).mapP g)) hp.symm
  case plp => exact exec_mapP_of_next rfl rfl ((hc (by simp [Instr.mnemonic])).pullStatus (s.advance 1))
  case rti => exact exec_mapP_of_next rfl rfl ((hc (by simp [Instr.mnemonic])).returnFromTrap s)
  case brk =>
    change answer (takeTrap (s.pc + 2) (s.mapP g)) = mapNext (State.mapP g) (answer (takeTrap (s.pc + 2) s))
    rw [(hc (by simp [Instr.mnemonic])).takeTrap hg (hl .i (.head _))]
    cases takeTrap (s.pc + 2) s <;> rfl
  case clc | sec | cli | sei | clv | cld | sed =>
    exact exec_mapP_of_next rfl rfl (State.setP_mapP g _ (hg.setFlag_free (hl _ (.head _)) _ _))
  case bcs | beq | bmi | bvs => exact exec_mapP_of_branch rfl rfl (hg.flag_tested (by simp) _)
  case bcc | bne | bpl | bvc => exact exec_mapP_of_branch rfl rfl (congrArg not (hg.flag_tested (by simp) _))
  case jmpInd w =>
    change execJmpInd w (s.mapP g) = mapNext (State.mapP g) (execJmpInd w s)
    unfold execJmpInd read16PageWrap
    rw [State.mapP_advance, readWord_mapP]
    cases readWord w _ (s.advance 3) <;> rfl
  all_goals cases hs <;> cases hd <;> cases ht

/-- R39, R45, R46: an instruction whose listed flags are not pinned does the same from the mapped state. -/
theorem exec_mapP (hg : Pins pin g) {i : Instr} (hl : ∀ f ∈ listedFlags i.mnemonic, pin f = none)
    (hc : i.mnemonic ∈ [.PHP, .BRK, .PLP, .RTI] → CopiesBlindly g) (s : State) :
    exec i (s.mapP g) = mapNext (State.mapP g) (exec i s) := by
  cases hs : i.source with
  | some src =>
    rw [(exec_source hs _).1, (exec_source hs s).1]
    exact withSource_mapP g s src (hg.readEffect i.mnemonic)
  | none =>
    cases hd : i.dest with
    | some m =>
      rw [(exec_dest hd _).1, (exec_dest hd s).1, storedByte_mapP]
      exact storeAt_mapP g s m _
    | none =>
      cases ht : i.target with
      | some t =>
        rw [(exec_target ht _).1, (exec_target ht s).1]
        exact modifyTarget_mapP g s t (hg.modifyOp i.mnemonic)
      | none => exact exec_noOperand_mapP hg hl hc hs hd ht s

end

end Sys2Proof.Machine
end

section
/-! PROOFS. Bits 5 and 4 of P, D and I are stored bits: each obligation follows from the noninterference of a map of P
(exec_mapP), beside what the instructions that name the bits do with them. -/

namespace Sys2Proof.Machine

/-! Status bytes under masks, flag by flag. -/

theorem flag_and (f : Flag) (p q : Byte) : flag f (p &&& q) = (flag f p && flag f q) := by
  simp only [flag_eq_bit, BitVec.getLsbD_and]

theorem flag_or (f : Flag) (p q : Byte) : flag f (p ||| q) = (flag f p || flag f q) := by
  simp only [flag_eq_bit, BitVec.getLsbD_or]

/-- R39: 0x30 is the mask of bits 5 and 4. -/
theorem flag_unusedMask (f : Flag) : flag f 0x30 = decide (f = .u ∨ f = .b) := by cases f <;> decide

/-- R39: 0xCF is the mask of the other six bits. -/
theorem flag_usedMask (f : Flag) : flag f 0xCF = !decide (f = .u ∨ f = .b) := by cases f <;> decide

theorem flag_pushedStatus (f : Flag) (p : Byte) : flag f (pushedStatus p) = (flag f p || decide (f = .u ∨ f = .b)) := by
  rw [pushedStatus, flag_or, flag_unusedMask]

theorem flag_withUnused (f : Flag) (bits p : Byte) :
    flag f (withUnused bits p) = if f = .u ∨ f = .b then flag f bits else flag f p := by
  rw [withUnused, flag_or, flag_and, flag_and, flag_unusedMask, flag_usedMask]
  by_cases h : f = .u ∨ f = .b <;> simp [h]

/-- Two status bytes agree in bits 5 and 4 where they agree in U and B. -/
theorem unusedBits_eq {p q : Byte} (hu : flag .u p = flag .u q) (hb : flag .b p = flag .b q) :
    p &&& 0x30 = q &&& 0x30 := by
  refine status_ext fun f => ?_
  rw [flag_and, flag_and, flag_unusedMask]
  by_cases h : f = .u ∨ f = .b
  · rcases h with rfl | rfl <;> simp [hu, hb]
  · simp [h]

/-- R39: the pushed copy has both bits set and every other bit of P. -/
theorem pushedStatus_bits (p : Byte) : pushedStatus p &&& 0x30 = 0x30 ∧ pushedStatus p &&& 0xCF = p &&& 0xCF := by
  constructor <;> refine status_ext fun f => ?_ <;>
    simp only [flag_and, flag_pushedStatus, flag_unusedMask, flag_usedMask] <;>
    by_cases h : f = .u ∨ f = .b <;> simp [h]

/-! Bits 5 and 4. -/

/-- The values withUnused gives. -/
def unusedPin (bits : Byte) (f : Flag) : Option Bool := if f = .u ∨ f = .b then some (flag f bits) else none

theorem pins_withUnused (bits : Byte) : Pins (unusedPin bits) (withUnused bits) where
  flag_map f p := by
    rw [flag_withUnused, unusedPin]
    split <;> rfl
  keeps_tested f hf := by
    rw [unusedPin, if_neg]
    rintro (rfl | rfl) <;> simp at hf

theorem copiesBlindly_withUnused (bits : Byte) : CopiesBlindly (withUnused bits) where
  pushedStatus_map p := by
    refine status_ext fun f => ?_
    rw [flag_pushedStatus, flag_pushedStatus, flag_withUnused]
    by_cases h : f = .u ∨ f = .b <;> simp [h]
  pulledStatus_map v p := by
    refine status_ext fun f => ?_
    rw [flag_withUnused, flag_pulledStatus, flag_pulledStatus, flag_withUnused]
    by_cases h : f = .u ∨ f = .b <;> simp [h]

/-- R48: no instruction lists bit 5 or bit 4. -/
theorem unused_not_listed (m : Mnemonic) : Flag.u ∉ listedFlags m ∧ Flag.b ∉ listedFlags m := by
  cases m <;> decide

theorem step_withUnused (bits : Byte) (s : State) :
    step (s.mapP (withUnused bits)) = mapNext (State.mapP (withUnused bits)) (step s) := by
  have hbegin : (s.mapP (withUnused bits)).begin = s.begin.mapP (withUnused bits) := rfl
  unfold step
  rw [hbegin, fetch_mapP]
  cases fetch s.begin with
  | error f => rfl
  | ok r =>
    refine exec_mapP (pins_withUnused bits) (fun f hf => ?_) (fun _ => copiesBlindly_withUnused bits) r.2
    rw [unusedPin, if_neg]
    rintro (rfl | rfl)
    · exact (unused_not_listed _).1 hf
    · exact (unused_not_listed _).2 hf

/-- What a step that answers a next state ran. -/
theorem step_next {s t : State} (h : step s = .next t) : ∃ i u, fetch s.begin = .ok (i, u) ∧ exec i u = .next t := by
  unfold step at h
  split at h
  · next i u e => exact ⟨i, u, e, h⟩
  · cases h

theorem step_keeps_unused {s t : State} (h : step s = .next t) : t.p &&& 0x30 = s.p &&& 0x30 := by
  obtain ⟨i, u, hf, he⟩ := step_next h
  have hp : u.p = s.p := (congrArg State.p (fetch_state hf)).trans rfl
  rw [← hp]
  exact unusedBits_eq (onlyListedFlagsChange i u t .u he (unused_not_listed _).1)
    (onlyListedFlagsChange i u t .b he (unused_not_listed _).2)

theorem hostReset_p {pReset : Byte} {s t : State} (h : hostReset pReset s = .ok t) : t.p = pReset := by
  unfold hostReset at h
  dsimp only at h
  split at h
  · cases h
  · next target u e =>
    cases h
    exact (congrArg State.p (readWord_state e)).trans rfl

/-- Settles O52: no instruction lists the two bits, and every instruction commutes with replacing them. -/
theorem unusedStatusBitsAreInert : Obligations.UnusedStatusBitsAreInert :=
  ⟨fun _ _ => step_keeps_unused, step_withUnused, fun _ _ _ => hostReset_p, pushedStatus_bits⟩

/-! D and I. -/

/-- The value setFlag gives. -/
def flagPin (f : Flag) (on : Bool) (g : Flag) : Option Bool := if g = f then some on else none

theorem pins_setFlag {f : Flag} (hf : f ∉ testedFlags) (on : Bool) : Pins (flagPin f on) (setFlag f on) where
  flag_map g p := by
    rw [flag_setFlag, flagPin]
    split <;> rfl
  keeps_tested g hg := if_neg fun e : g = f => hf (e ▸ hg)

theorem exec_setFlag {f : Flag} (hf : f = .d ∨ f = .i) (on : Bool) {i : Instr}
    (hi : i.mnemonic ∉ [.PHP, .BRK, .PLP, .RTI]) (hl : f ∉ listedFlags i.mnemonic) (s : State) :
    exec i (s.mapP (setFlag f on)) = mapNext (State.mapP (setFlag f on)) (exec i s) := by
  have ht : f ∉ testedFlags := by rcases hf with rfl | rfl <;> decide
  exact exec_mapP (pins_setFlag ht on) (fun g hg => if_neg fun e : g = f => hl (e ▸ hg)) (fun h => absurd h hi) s

/-- R92: the stack byte at a stack pointer is a readable byte. -/
theorem peek_stackAddr (s : State) (sp : Byte) : s.peek (stackAddr sp) = some (s.ram.read (stackIndex sp)) := by
  have hn : (stackAddr sp).toNat = 0x100 + sp.toNat := by
    rw [BitVec.toNat_add, zext_toNat]
    change (0x100 + sp.toNat) % 0x10000 = _
    omega
  rw [peek_inRam s (by omega), hn, Nat.mod_eq_of_lt (by omega)]
  rfl

/-- R241, R278: D and I of the pushed copy are those of P. -/
theorem flag_pushedStatus_stored {f : Flag} (hf : f = .d ∨ f = .i) (p : Byte) :
    flag f (pushedStatus p) = flag f p := by
  rw [flag_pushedStatus]
  rcases hf with rfl | rfl <;> simp

/-- R243, R279: D and I of the pulled status are those of the byte. -/
theorem flag_pulledStatus_stored {f : Flag} (hf : f = .d ∨ f = .i) (v p : Byte) :
    flag f (pulledStatus v p) = flag f v := by
  rw [flag_pulledStatus, if_neg (by rcases hf with rfl | rfl <;> decide)]

/-- R278: BRK leaves the pushed copy of P at the third stack byte. -/
theorem execBrk_pushed {s t : State} (h : exec .brk s = .next t) :
    t.peek (stackAddr (s.sp - 2)) = some (pushedStatus s.p) := by
  obtain ⟨w, u, hr, rfl⟩ := takeTrap_ok (execBrk_next h)
  have hu : u.ram = (trapFrame (s.pc + 2) s).ram := (congrArg State.ram (readWord_state hr)).trans rfl
  have hsp : s.sp - 1 - 1 = s.sp - 2 := by bv_omega
  rw [peek_stackAddr, State.setPc_ram, hu]
  simp only [trapFrame, push_eq, pushWord_eq, State.setP_ram, hsp, Memory.read_write_same]

/-- Settles O53: every other instruction commutes with writing D or I, and the named ones do what their rules say. -/
theorem decimalAndInterruptFlagsAreInert : Obligations.DecimalAndInterruptFlagsAreInert := by
  refine ⟨fun f on i s hf hi hl => exec_setFlag hf on hi hl s, fun s t => ⟨?_, ?_, ?_, ?_, ?_⟩, ?_, ?_, ?_⟩
  · intro h; cases h; exact flag_setFlag_same .d true s.p
  · intro h; cases h; exact flag_setFlag_same .d false s.p
  · intro h; cases h; exact flag_setFlag_same .i true s.p
  · intro h; cases h; exact flag_setFlag_same .i false s.p
  · intro h
    rw [takeTrap_p (execBrk_next h), flag_setFlag_same]
  · intro f s t hf h
    refine ⟨_, peek_stackAddr s _, ?_⟩
    rcases h with h | h <;> cases h
    · rw [pullStatus_eq]; exact flag_pulledStatus_stored hf _ _
    · rw [returnFromTrap_p]; exact flag_pulledStatus_stored hf _ _
  · intro f s t hf h
    cases h
    refine ⟨pushedStatus s.p, ?_, flag_pushedStatus_stored hf s.p⟩
    rw [peek_stackAddr, push_eq]
    exact congrArg some (Memory.read_write_same _ _ _)
  · intro f s t hf h
    exact ⟨_, execBrk_pushed h, flag_pushedStatus_stored hf s.p⟩

end Sys2Proof.Machine
end

section
/-! PROOFS. The flag computations as arithmetic (R40-R44): the adder and the subtraction on unsigned and on signed numbers,
the compare, and the shifts and rotates. -/

namespace Sys2Proof.Machine

/-! Bytes as signed numbers. -/

/-- Bit 7 of a byte as a number. -/
theorem byte_msb_iff (a : Byte) : a.msb = true ↔ 0x80 ≤ a.toNat := by
  rw [BitVec.msb_eq_decide, decide_eq_true_iff]

theorem byte_msb_eq_iff (a b : Byte) : a.msb = b.msb ↔ (0x80 ≤ a.toNat ↔ 0x80 ≤ b.toNat) := by
  rw [Bool.eq_iff_iff, byte_msb_iff, byte_msb_iff]

/-- R41: a byte in two's complement. -/
theorem byte_toInt (a : Byte) : a.toInt = if 0x80 ≤ a.toNat then (a.toNat : Int) - 0x100 else a.toNat := by
  rw [BitVec.toInt_eq_msb_cond]
  simp only [byte_msb_iff]
  rfl

/-- R42: the one's complement. -/
theorem onesComplement_toNat (m : Byte) : (m ^^^ 0xFF).toNat = 0xFF - m.toNat := by
  have h : m ^^^ 0xFF = ~~~m := (BitVec.xor_allOnes (x := m))
  rw [h, BitVec.toNat_not]

theorem onesComplement_toInt (m : Byte) : (m ^^^ 0xFF).toInt = -1 - m.toInt := by
  rw [byte_toInt, byte_toInt, onesComplement_toNat]
  split <;> split <;> omega

/-! The adder. -/

section
variable (a b : Byte) (c : Bool)

theorem addCore_result_toNat : (addCore a b c).result.toNat = (a.toNat + b.toNat + c.toNat) % 0x100 :=
  BitVec.toNat_ofNat _ 8

theorem addCore_carry : (addCore a b c).carry = true ↔ 0xFF < a.toNat + b.toNat + c.toNat :=
  decide_eq_true_iff

/-- R41: the sign formula. -/
theorem addCore_overflow_formula : (addCore a b c).overflow = true ↔
    (a ^^^ (addCore a b c).result) &&& (b ^^^ (addCore a b c).result) &&& 0x80 ≠ 0 :=
  bne_iff_ne

/-- R41: the sign formula reads bit 7 of the operands and of the result. -/
theorem addCore_overflow_signs :
    (addCore a b c).overflow = true ↔ a.msb = b.msb ∧ (addCore a b c).result.msb ≠ a.msb := by
  have h : (addCore a b c).overflow =
      flag .n ((a ^^^ (addCore a b c).result) &&& (b ^^^ (addCore a b c).result)) := rfl
  rw [h, flag_eq_bit]
  change BitVec.getLsbD _ (8 - 1) = true ↔ _
  rw [← BitVec.msb_eq_getLsbD_last, BitVec.msb_and, BitVec.msb_xor, BitVec.msb_xor]
  cases a.msb <;> cases b.msb <;> cases (addCore a b c).result.msb <;> decide

/-- R41: overflow says that the signed sum has no byte. -/
theorem addCore_overflow_signed : (addCore a b c).overflow = true ↔
    a.toInt + b.toInt + (c.toNat : Int) < -128 ∨ 127 < a.toInt + b.toInt + (c.toNat : Int) := by
  have hc : c.toNat ≤ 1 := Bool.toNat_le c
  rw [addCore_overflow_signs, Ne, byte_msb_eq_iff, byte_msb_eq_iff, addCore_result_toNat, byte_toInt, byte_toInt]
  split <;> split <;> omega

end

/-- Settles O16: the laws of the adder. -/
theorem adderCarriesAndOverflows : Obligations.AdderCarriesAndOverflows := fun a b c =>
  ⟨addCore_result_toNat a b c, addCore_carry a b c, addCore_overflow_formula a b c, addCore_overflow_signs a b c,
    addCore_overflow_signed a b c⟩

/-- Settles O17: the laws of the adder, with the one's complement as a number. -/
theorem subtractionBorrowsAndOverflows : Obligations.SubtractionBorrowsAndOverflows := by
  intro a m c
  have hc : c.toNat ≤ 1 := Bool.toNat_le c
  refine ⟨rfl, ?_, ?_, ?_⟩
  · rw [subCore, addCore_result_toNat, onesComplement_toNat]
    omega
  · rw [subCore, addCore_carry, onesComplement_toNat]
    omega
  · rw [subCore, addCore_overflow_signed, onesComplement_toInt]
    omega

/-! SetZN and Compare. -/

/-- Settles O15, from what SetZN leaves in each flag. -/
theorem setZnFollowsTheResult : Obligations.SetZnFollowsTheResult := by
  intro r p
  refine ⟨?_, ?_, fun f hz hn => ?_⟩
  · exact flag_setZN .z r p
  · rw [flag_setZN, if_pos rfl, BitVec.msb_eq_getLsbD_last]
  · exact flag_setZN_of_unlisted (by simp [hn, hz]) r p

/-- Settles O18, from what a compare leaves in each flag. -/
theorem compareIsUnsigned : Obligations.CompareIsUnsigned := by
  intro reg m p
  refine ⟨?_, ?_, ?_, fun f hc hz hn => ?_⟩
  · simp [flag_compareFlags]
  · simp [flag_compareFlags]
  · rw [flag_compareFlags, if_pos rfl, byte_msb_iff, BitVec.toNat_sub]
    omega
  · exact flag_compareFlags_of_unlisted (by simp [hn, hz, hc]) reg m p

/-! The shifts and rotates. -/

/-- Setting a bit that is clear adds its weight. -/
theorem or_mask_toNat {f : Flag} {v : Byte} (h : flag f v = false) (on : Bool) :
    (v ||| if on then f.mask else 0x00).toNat = (v.toNat + f.mask.toNat * on.toNat) % 0x100 := by
  have hclear : v &&& f.mask = 0 := by simpa [flag] using h
  cases on
  · simp [Nat.mod_eq_of_lt (a := v.toNat) (b := 0x100) v.isLt]
  · rw [if_pos rfl, ← BitVec.add_eq_or_of_and_eq_zero _ _ hclear, BitVec.toNat_add, Bool.toNat_true, Nat.mul_one]

section
variable (v p : Byte)

theorem getLsbD_seven : v.getLsbD 7 = decide (0x80 ≤ v.toNat) :=
  (BitVec.msb_eq_getLsbD_last v).symm.trans (BitVec.msb_eq_decide v)

theorem shiftLeft_toNat : (shiftLeft v p).result.toNat = 2 * v.toNat % 0x100 := by
  change (v <<< 1).toNat = _
  rw [BitVec.toNat_shiftLeft, Nat.shiftLeft_eq]
  omega

theorem shiftRight_toNat : (shiftRight v p).result.toNat = v.toNat / 2 := by
  change (v >>> 1).toNat = _
  rw [BitVec.toNat_ushiftRight, Nat.shiftRight_eq_div_pow]

theorem rotateLeft_toNat : (rotateLeft v p).result.toNat = (2 * v.toNat + (flag .c p).toNat) % 0x100 := by
  have hclear : flag .c (v <<< 1) = false := by simp [flag_eq_bit, Flag.bit]
  change ((v <<< 1) ||| (if flag .c p then Flag.c.mask else 0x00)).toNat = _
  rw [or_mask_toNat hclear, BitVec.toNat_shiftLeft, Nat.shiftLeft_eq]
  change (v.toNat * 2 ^ 1 % 0x100 + 0x01 * (flag .c p).toNat) % 0x100 = _
  omega

theorem rotateRight_toNat : (rotateRight v p).result.toNat = v.toNat / 2 + 0x80 * (flag .c p).toNat := by
  have hclear : flag .n (v >>> 1) = false := by simp [flag_eq_bit, Flag.bit]
  have hp : (flag .c p).toNat ≤ 1 := Bool.toNat_le _
  change ((v >>> 1) ||| (if flag .c p then Flag.n.mask else 0x00)).toNat = _
  rw [or_mask_toNat hclear, BitVec.toNat_ushiftRight, Nat.shiftRight_eq_div_pow]
  change (v.toNat / 2 ^ 1 + 0x80 * (flag .c p).toNat) % 0x100 = _
  omega

/-- R44: the bit shifted out. -/
theorem flag_c_shifted (r : Byte) (out : Bool) : flag .c (setZN r (setFlag .c out p)) = out := by
  simp [flag_setZN_setFlag_c]

/-- What each shift and rotate leaves in the other flags. -/
theorem flags_of_shifted (r : Byte) (out : Bool) :
    flag .z (setZN r (setFlag .c out p)) = decide (r = 0) ∧ flag .n (setZN r (setFlag .c out p)) = r.msb ∧
    ∀ f, f ≠ .z → f ≠ .n → f ≠ .c → flag f (setZN r (setFlag .c out p)) = flag f p := by
  refine ⟨?_, ?_, fun f hz hn hc => ?_⟩
  · exact flag_setZN_setFlag_c .z r out p
  · simp [flag_setZN_setFlag_c]
  · exact flag_setZN_setFlag_c_of_unlisted (by simp [hn, hz, hc]) r out p

theorem rotateRight_rotateLeft : (rotateRight (rotateLeft v p).result (rotateLeft v p).status).result = v := by
  have hc : flag .c (rotateLeft v p).status = decide (0x80 ≤ v.toNat) :=
    (flag_c_shifted p _ _).trans (getLsbD_seven v)
  have hp : (flag .c p).toNat ≤ 1 := Bool.toNat_le _
  refine BitVec.eq_of_toNat_eq ?_
  rw [rotateRight_toNat, rotateLeft_toNat, hc]
  by_cases h : 0x80 ≤ v.toNat
  · rw [decide_eq_true h, Bool.toNat_true]; omega
  · rw [decide_eq_false h, Bool.toNat_false]; omega

end

/-- Settles O19: each operation is SetZN of its result after C was written. -/
theorem shiftsAndRotatesOnNumbers : Obligations.ShiftsAndRotatesOnNumbers := by
  intro v p
  refine ⟨⟨flag_c_shifted p _ _, flag_c_shifted p _ _⟩, ⟨flag_c_shifted p _ _, flag_c_shifted p _ _⟩,
    shiftLeft_toNat v p, shiftRight_toNat v p, rotateLeft_toNat v p, rotateRight_toNat v p, fun op hop => ?_,
    rotateRight_rotateLeft v p⟩
  simp only [List.mem_cons, List.not_mem_nil, or_false] at hop
  rcases hop with rfl | rfl | rfl | rfl <;> exact flags_of_shifted p _ _

end Sys2Proof.Machine
end

section
/-! PROOFS. The memory bus and the stack engine (R70-R93): the mirrors of internal RAM, what an access leaves unchanged,
where it fails, the PRG buffer behind NROM, and one push and one pop. -/

namespace Sys2Proof.Machine

/-! One RAM byte written. -/

/-- R73: two addresses of internal RAM name one byte exactly where they have one RAM index. -/
theorem sameByte_inRam_iff {a b : Addr} (ha : a.toNat < 0x2000) (hb : b.toNat < 0x2000) :
    SameByte a b ↔ a.toNat % 0x800 = b.toNat % 0x800 := by
  constructor
  · rintro (rfl | ⟨-, -, h⟩)
    · rfl
    · exact ramMask_eq.mp h
  · exact fun h => .inr ⟨ha, hb, ramMask_eq.mpr h⟩

/-- R80: a write of internal RAM is read back. -/
theorem peek_ramWrite_same {a : Addr} (v : Byte) (s : State) (ha : a.toNat < 0x2000) :
    (s.setRam (s.ram.write (a.toNat % 0x800) v)).peek a = some v := by
  rw [peek_inRam _ ha, State.setRam_ram, Memory.read_write_same]

/-- R80: a write of internal RAM leaves every byte it does not name as it was. -/
theorem peek_ramWrite_other {a b : Addr} (v : Byte) (s : State) (ha : a.toNat < 0x2000) (h : ¬ SameByte a b) :
    (s.setRam (s.ram.write (a.toNat % 0x800) v)).peek b = s.peek b := by
  rcases region_cases b with ⟨hb, _⟩ | ⟨_, e⟩ | ⟨_, e⟩
  · have hk : b.toNat % 0x800 ≠ a.toNat % 0x800 := fun e => h ((sameByte_inRam_iff ha hb).mpr e.symm)
    rw [peek_inRam _ hb, peek_inRam _ hb, State.setRam_ram, Memory.read_write_other _ v hk]
  · simp only [State.peek, e]
  · simp only [State.peek, e]
    rfl

/-- Settles O1: mirrors have one RAM index. -/
theorem ramMirrorsNameOneByte : Obligations.RamMirrorsNameOneByte := by
  intro a b v s ha hb hab
  have hk : a.toNat % 0x800 = b.toNat % 0x800 := ramMask_eq.mp hab
  refine ⟨?_, ?_, s.setRam (s.ram.write (a.toNat % 0x800) v), busWrite_inRam v s ha, ?_⟩
  · rw [ramMask_toNat, busRead_inRam s ha]
  · rw [busRead_inRam s ha, busRead_inRam s hb, hk]
  · exact busRead_of_peek (hk ▸ peek_ramWrite_same v s hb)

/-! NROM. -/

theorem Mapper.isNrom_iff {m : Mapper} : m.isNrom = true ↔ ∃ size, m = .nrom size := by
  cases m <;> simp [Mapper.isNrom]

/-- R79: a read of the cartridge window under NROM. -/
theorem busRead_nrom {a : Addr} {s : State} {size : PrgSize} (ha : 0x8000 ≤ a.toNat) (hm : s.mapper = .nrom size) :
    busRead a s = .ok (s.prg.read (nromOffset size a), s) :=
  busRead_of_peek ((peek_inCart s ha).trans (cartRead_nrom hm a))

/-- Settles O2, from the RAM write's two laws and NROM's answers. -/
theorem busAccessesHaveNoFurtherEffect : Obligations.BusAccessesHaveNoFurtherEffect := by
  intro a v s
  refine ⟨?_, fun ha => ?_, fun ha hm => ?_⟩
  · rintro (ha | ⟨ha, hm⟩)
    · exact ⟨_, busRead_inRam s ha⟩
    · obtain ⟨size, hsize⟩ := Mapper.isNrom_iff.mp hm
      exact ⟨_, busRead_nrom ha hsize⟩
  · exact ⟨_, busWrite_inRam v s ha, rfl, peek_ramWrite_same v s ha, fun b hb => peek_ramWrite_other v s ha hb⟩
  · obtain ⟨size, hsize⟩ := Mapper.isNrom_iff.mp hm
    rw [busWrite_inCart v s ha, cartWrite_nrom hsize]

/-- R79: with 16 KiB an offset is taken modulo the buffer's length. -/
theorem nromOffset_k16 (a : Addr) : nromOffset .k16 a = (a.toNat - 0x8000) % 16384 := rfl

/-- R79: with 16 KiB the upper half of the window mirrors the lower. -/
theorem nromOffset_k16_mirror {a : Addr} (ha : 0x8000 ≤ a.toNat) (ha' : a.toNat < 0xC000) :
    nromOffset .k16 (a + 0x4000) = nromOffset .k16 a := by
  have hadd : (a + 0x4000).toNat = a.toNat + 0x4000 := by bv_omega
  rw [nromOffset_k16, nromOffset_k16, hadd]
  omega

/-- R79: 32 KiB fill the window. -/
theorem nromOffset_k32 (a : Addr) : nromOffset .k32 a = a.toNat - 0x8000 := by
  simp only [nromOffset, PrgSize.bytes, Config.cartBase]
  omega

/-- R79: NROM takes no other length of the PRG buffer. -/
theorem selectMapper_nrom_error {prg : List Byte} (h16 : prg.length ≠ 16384) (h32 : prg.length ≠ 32768)
    (translates : Byte → Option MapperTranslate) :
    selectMapper 0 prg translates = .error (.prgLength prg.length) := by
  simp only [selectMapper, if_true, PrgSize.bytes, h16, h32, if_false]

/-- Settles O5, from the offsets NROM reads and what it refuses. -/
theorem nromReadsThePrgBuffer : Obligations.NromReadsThePrgBuffer := by
  refine ⟨fun a s ha => ⟨fun hm => ⟨?_, fun ha' => ?_⟩, fun hm => ?_⟩, ?_⟩
  · rw [busRead_nrom ha hm, nromOffset_k16]
  · have hb : 0x8000 ≤ (a + 0x4000).toNat := by bv_omega
    rw [busRead_nrom ha hm, busRead_nrom hb hm, nromOffset_k16_mirror ha ha']
  · rw [busRead_nrom ha hm, nromOffset_k32]
  · intro prg ramInit translates ext h16 h32
    rw [load, selectMapper_nrom_error h16 h32]

/-! Where an access fails. -/

/-- R342, R278: with no vector gap the mapper answers every read of the cartridge window. -/
theorem cartRead_of_mapsVectors {s : State} (h : s.mapper.mapsVectors = true) (a : Addr) :
    ∃ v, s.cartRead a = some v := by
  cases hm : s.mapper with
  | nrom size => exact ⟨_, cartRead_nrom hm a⟩
  | translated id len t =>
    have hg : t.vectorGaps = [] := by simpa [hm, Mapper.mapsVectors] using h
    simp [State.cartRead, hm, MapperTranslate.leavesUnmapped, hg]

/-- R76: a read fails where nothing is mapped. -/
theorem busRead_unmapped {a : Addr} {s : State} (ha : unmapped a) (he : s.ext = .empty) :
    busRead a s = .error (s.invalid a .read) := by
  simp only [busRead, region_ext ha.1 ha.2, he]

/-- R76: a write fails where nothing is mapped. -/
theorem busWrite_unmapped {a : Addr} {s : State} (v : Byte) (ha : unmapped a) (he : s.ext = .empty) :
    busWrite a v s = .error (s.invalid a .write) := by
  simp only [busWrite, region_ext ha.1 ha.2, he]

/-- Settles O4: a failing access lies outside RAM, and the mapper answers its whole window. -/
theorem invalidBusAddressExactlyWhereUnmapped : Obligations.InvalidBusAddressExactlyWhereUnmapped := by
  rintro a s ⟨hv, he⟩
  refine ⟨fun f => ⟨fun h => ?_, ?_⟩, fun v f => ⟨fun h => ?_, ?_⟩⟩
  · obtain ⟨hf, hlo⟩ := busRead_error h
    refine ⟨⟨hlo, Nat.lt_of_not_le fun hhi => ?_⟩, hf⟩
    obtain ⟨w, hw⟩ := cartRead_of_mapsVectors hv a
    rw [busRead_of_peek ((peek_inCart s hhi).trans hw)] at h
    cases h
  · rintro ⟨ha, rfl⟩
    exact busRead_unmapped ha he
  · obtain ⟨hf, ha⟩ := busWrite_error h
    exact ⟨ha, hf⟩
  · rintro ⟨ha, rfl⟩
    exact busWrite_unmapped v ha he

/-! The stack engine. -/

/-- R92: the stack page is 0x0100-0x01FF. -/
theorem stackAddr_toNat (sp : Byte) : (stackAddr sp).toNat = stackIndex sp := by
  rw [BitVec.toNat_add, zext_toNat]
  exact Nat.mod_eq_of_lt (by simp; omega)

theorem stackAddr_inRam (sp : Byte) : (stackAddr sp).toNat < 0x2000 :=
  stackAddr_toNat sp ▸ Nat.lt_trans (stackIndex_lt sp) (by decide)

/-- R90, R92: a push changes the readable bytes as a write at the stack address does. -/
theorem peek_push (v : Byte) (s : State) (a : Addr) :
    (push v s).peek a = (s.setRam (s.ram.write ((stackAddr s.sp).toNat % 0x800) v)).peek a := by
  have hk : stackIndex s.sp % 0x800 = stackIndex s.sp := Nat.mod_eq_of_lt (stackIndex_lt s.sp)
  rw [push_eq, stackAddr_toNat, hk]
  exact peek_of_fields rfl rfl rfl rfl a

/-- Settles O11: a push is a RAM write at the stack address. -/
theorem pushWritesAndDecrements : Obligations.PushWritesAndDecrements := by
  intro v s
  refine ⟨?_, ?_, fun a ha => ?_⟩
  · rw [push_eq]
  · rw [peek_push, peek_ramWrite_same v s (stackAddr_inRam s.sp)]
  · rw [peek_push, peek_ramWrite_other v s (stackAddr_inRam s.sp) ha]

/-- Settles O12: a pop reads the stack byte at the incremented stack pointer. -/
theorem popIncrementsAndReads : Obligations.PopIncrementsAndReads := by
  intro s
  rw [pop_eq]
  exact ⟨peek_stackAddr s (s.sp + 1), rfl⟩

end Sys2Proof.Machine
end

section
/-! PROOFS. The opcode byte alone tells mnemonic, mode and length (R119): what the decoder takes from a list of bytes is the
opcode and as many operand bytes as that opcode asks for. -/

namespace Sys2Proof

/-- R110, R112: a decoded instruction is the opcode byte's entry on the operand bytes after it, and the decoder takes the
opcode's number of them. -/
theorem decode_ok {bytes rest : List Byte} {i : Instr} (h : decode bytes = .ok (i, rest)) :
    ∃ op b1 b2 : Byte, i = instrOf op b1 b2 ∧ bytes = op :: ([b1, b2].take (operandCount op) ++ rest) := by
  unfold decode at h
  split at h
  · cases h
  · next op tail =>
    split at h
    · next hn => cases h; exact ⟨op, 0, 0, rfl, by rw [hn]; rfl⟩
    · next b1 _ hn => cases h; exact ⟨op, b1, 0, rfl, by rw [hn]; rfl⟩
    · next b1 b2 _ hn => cases h; exact ⟨op, b1, b2, rfl, by rw [hn]; rfl⟩
    · cases h

/-- R110: an instruction's length is that of the opcode byte and the operand bytes it asks for. -/
theorem instrOf_length (op b1 b2 : Byte) : (instrOf op b1 b2).length = 1 + operandCount op := by
  rw [operandCount_eq op b1 b2, Instr.length]

/-- R110: decoding uses as many bytes as the instruction's length. -/
theorem decode_uses_length {bytes rest : List Byte} {i : Instr} (h : decode bytes = .ok (i, rest)) :
    bytes.length = i.length + rest.length := by
  obtain ⟨op, b1, b2, rfl, rfl⟩ := decode_ok h
  have htake : ([b1, b2].take (operandCount op)).length = operandCount op :=
    List.length_take_of_le (operandCount_le_two op)
  rw [instrOf_length, List.length_cons, List.length_append, htake]
  omega

/-- R111: the operand bytes of each mode. -/
theorem Mode.operandBytes_eq (m : Mode) : m.operandBytes =
    if m ∈ [.imp, .acc] then 0 else if m ∈ [.abs, .absx, .absy, .ind] then 2 else 1 := by
  cases m <;> rfl

/-- Settles O57: two tails give the shape that zero operand bytes give, and the decoder's inversion counts the bytes. -/
theorem opcodeAloneFixesModeAndLength : Obligations.OpcodeAloneFixesModeAndLength := by
  refine ⟨fun op b1 b2 c1 c2 => ?_, Mode.operandBytes_eq, fun _ _ _ => decode_uses_length⟩
  obtain ⟨hmnemonic, hmode⟩ := instrOf_shape_of_opcode op b1 b2
  obtain ⟨hmnemonic', hmode'⟩ := instrOf_shape_of_opcode op c1 c2
  exact ⟨hmnemonic.trans hmnemonic'.symm, hmode.trans hmode'.symm, instrOf_length op b1 b2⟩

end Sys2Proof
end

section
/-! PROOFS. The effective addresses (R149-R157): the index added in the zero page or in the whole space, and the pointer of
the indirect modes, two readable bytes of the zero page. -/

namespace Sys2Proof.Machine

/-- R150, R151: an index added to a zero-page address stays in the zero page. -/
theorem zext_add_toNat (z x : Byte) : (zext (z + x)).toNat = (z.toNat + x.toNat) % 0x100 := by
  rw [zext_toNat, BitVec.toNat_add]

/-- R153, R154, R157: an index added to a 16-bit address wraps at 64 KiB. -/
theorem add_zext_toNat (w : Addr) (x : Byte) : (w + zext x).toNat = (w.toNat + x.toNat) % 0x10000 := by
  rw [BitVec.toNat_add, zext_toNat]

/-- R74: the byte readable at a zero-page address is that byte of the zero page. -/
theorem zpRead_of_peek {s : State} {z v : Byte} {p : Addr} (hp : p.toNat = z.toNat) (h : s.peek p = some v) :
    s.zpRead z = v := by
  rw [peek_inRam s (by omega), hp, Nat.mod_eq_of_lt (by omega)] at h
  exact Option.some.inj h

/-- R13: the two bytes readable at a zero-page address and the next one, with its wrap, are the word Read16ZP gives. -/
theorem zpWord_of_peek {s : State} {z lo hi : Byte} {p q : Addr} (hp : p.toNat = z.toNat)
    (hq : q.toNat = (p.toNat + 1) % 0x100) (hlo : s.peek p = some lo) (hhi : s.peek q = some hi) :
    s.zpWord z = word hi lo := by
  have hnext : q.toNat = (z + 1).toNat := by rw [hq, hp, BitVec.toNat_add]; rfl
  rw [State.zpWord, zpRead_of_peek hp hlo, zpRead_of_peek hnext hhi]

/-- R115: the map has ZPY in LDX and STX only. -/
theorem mnemonic_of_mode_zpy {i : Instr} (h : i.mode = some .zpy) : i.mnemonic = .LDX ∨ i.mnemonic = .STX := by
  cases i
  case ldxZpy => exact .inl rfl
  case stxZpy => exact .inr rfl
  all_goals cases h

/-- Settles O20: the direct modes are sums with their wrap, the indirect ones the word of two readable bytes. -/
theorem effectiveAddressOfEachMode : Obligations.EffectiveAddressOfEachMode := by
  refine ⟨fun z w s => ⟨zext_toNat z, zext_add_toNat z s.x, zext_add_toNat z s.y, rfl, add_zext_toNat w s.x,
    add_zext_toNat w s.y, fun p q lo hi hp hq hlo hhi => ?_, fun p q lo hi hp hq hlo hhi => ?_⟩, by decide, by decide,
    fun _ => mnemonic_of_mode_zpy⟩
  · have hpointer : p.toNat = (z + s.x).toNat := hp.trans (BitVec.toNat_add z s.x).symm
    rw [effAddr, zpWord_of_peek hpointer hq hlo hhi, word_toNat]
  · rw [effAddr, zpWord_of_peek hp hq hlo hhi, add_zext_toNat, word_toNat]

end Sys2Proof.Machine
end

section
/-! PROOFS. PC after an instruction that does not write it (R142): the accesses and the register effects leave PC where the
advance put it. -/

namespace Sys2Proof.Machine

theorem readSource_pc {src : Source} {s t : State} {v : Byte} (h : readSource src s = .ok (v, t)) : t.pc = s.pc :=
  (congrArg State.pc (readSource_state h)).trans rfl

theorem busRead_pc {a : Addr} {s t : State} {v : Byte} (h : busRead a s = .ok (v, t)) : t.pc = s.pc :=
  (congrArg State.pc (busRead_state h)).trans rfl

theorem busWrite_pc {a : Addr} {s t : State} {v : Byte} (h : busWrite a v s = .ok t) : t.pc = s.pc :=
  (congrArg State.pc (busWrite_state h)).trans rfl

theorem readEffect_pc (m : Mnemonic) (v : Byte) (t : State) : (readEffect m v t).pc = t.pc := by
  rw [readEffect_state]

theorem push_pc (v : Byte) (s : State) : (push v s).pc = s.pc := by rw [push_eq]

theorem pop_pc (s : State) : (pop s).2.pc = s.pc := by rw [pop_eq]

theorem pullStatus_pc (s : State) : (pullStatus s).pc = s.pc := by rw [pullStatus_eq]

/-- R253: a branch that is not taken goes on behind its two bytes. -/
theorem branch_pc_of_not_taken {taken : Bool} {r : Byte} {s t : State} (h : branch taken r s = .next t)
    (htaken : some taken ≠ some true) : t.pc = s.pc + 2 := by
  cases taken with
  | true => exact absurd rfl htaken
  | false => cases h; rfl

section
variable {i : Instr} {s t : State} (h : exec i s = .next t) (hm : i.mnemonic ∉ [.JMP, .JSR, .RTS, .RTI, .BRK])
  (hb : branchCondition i.mnemonic s.p ≠ some true)
include h hm hb

/-- The instructions without an operand. -/
theorem exec_noOperand_pc (hs : i.source = none) (hd : i.dest = none) (ht : i.target = none) :
    t.pc = s.pc + BitVec.ofNat 16 i.length := by
  cases i
  case tax | tay | txa | tya | tsx | txs | inx | iny | dex | dey => cases h; rfl
  case clc | sec | cli | sei | clv | cld | sed | nop | illegal => cases h; rfl
  case pha | php => cases h; exact push_pc _ _
  case pla => rw [exec_pla] at h; cases h; exact pop_pc _
  case plp => cases h; exact pullStatus_pc _
  case bcc | bcs | beq | bne | bmi | bpl | bvc | bvs => exact branch_pc_of_not_taken h hb
  case jmpAbs | jmpInd | jsr | rts | rti | brk => exact absurd (by simp [Instr.mnemonic]) hm
  all_goals cases hs <;> cases hd <;> cases ht

/-- R142: an instruction that does not write PC moves it by the instruction's length. -/
theorem exec_pc_of_not_written : t.pc = s.pc + BitVec.ofNat 16 i.length := by
  rcases exec_next h with ⟨src, v, u, -, hr, rfl⟩ | ⟨m, -, hw⟩ | ⟨m, v, u, w, -, hr, hw, rfl⟩ | ⟨hacc, rfl⟩ | ⟨hs, hd, ht⟩
  · rw [readEffect_pc, readSource_pc hr, State.advance_pc]
  · rw [busWrite_pc hw, State.advance_pc]
  · rw [State.setP_pc, busWrite_pc hw, busRead_pc hr, State.advance_pc]
  · obtain ⟨-, hlength, -⟩ := exec_target hacc s
    rw [hlength]
    rfl
  · exact exec_noOperand_pc h hm hb hs hd ht

end

/-- R110, R111: the length by the mode. -/
theorem length_of_mode {i : Instr} {m : Mode} (h : i.mode = some m) : i.length = 1 + m.operandBytes := by
  simp only [Instr.length, Instr.operandBytes, h]

/-- R116: the illegal entry has no mode and is one byte long. -/
theorem length_of_no_mode {i : Instr} (h : i.mode = none) : i.length = 1 := by
  simp only [Instr.length, Instr.operandBytes, h]

/-- Settles O42, from PC as a sum modulo 64 KiB. -/
theorem programCounterAdvancesByLength : Obligations.ProgramCounterAdvancesByLength := by
  intro i s t h hm hb
  refine ⟨?_, fun m => length_of_mode, length_of_no_mode⟩
  rw [exec_pc_of_not_written h hm hb, BitVec.toNat_add, BitVec.toNat_ofNat, Nat.add_mod_mod]

end Sys2Proof.Machine
end

section
/-! PROOFS. The step runs what the fetch gives (R140); on readable bytes the fetch gives what the decoder gives, and leaves
the state as it was. -/

namespace Sys2Proof.Machine

/-- R140, R141: a fetch of readable bytes is the decoding of those bytes; the bytes past the operands need not be readable. -/
theorem fetch_of_decode {s : State} {b0 b1 b2 : Byte} {i : Instr} {rest : List Byte} (h0 : s.peek s.pc = some b0)
    (h1 : 1 ≤ operandCount b0 → s.peek (s.pc + 1) = some b1) (h2 : 2 ≤ operandCount b0 → s.peek (s.pc + 2) = some b2)
    (hd : decode [b0, b1, b2] = .ok (i, rest)) : fetch s = .ok (i, s) := by
  have hle : operandCount b0 ≤ 2 := operandCount_le_two b0
  obtain hn | hn | hn : operandCount b0 = 0 ∨ operandCount b0 = 1 ∨ operandCount b0 = 2 := by omega
  all_goals
    simp only [decode, hn] at hd
    cases hd
  · simp only [fetch, busRead_of_peek h0, hn]
  · simp only [fetch, busRead_of_peek h0, busRead_of_peek (h1 (Nat.le_of_eq hn.symm)), hn]
  · simp only [fetch, busRead_of_peek h0, busRead_of_peek (h1 (by omega)),
      busRead_of_peek (h2 (Nat.le_of_eq hn.symm)), hn]

theorem step_of_fetch {s t : State} {i : Instr} (h : fetch s.begin = .ok (i, t)) : step s = exec i t := by
  rw [step, h]

theorem step_of_fetch_error {s : State} {f : Fault} (h : fetch s.begin = .error f) : step s = .fault f := by
  rw [step, h]

/-- Settles O49: emptying warnings and error leaves PC and every readable byte, so the fetch decodes the bytes at PC. -/
theorem stepRunsTheDecodedInstruction : Obligations.StepRunsTheDecodedInstruction := by
  refine ⟨fun s b0 b1 b2 i rest h0 h1 h2 hd => ?_, fun _ _ _ => step_of_fetch, fun _ _ => step_of_fetch_error⟩
  have hpeek : ∀ a, s.begin.peek a = s.peek a := peek_of_fields rfl rfl rfl rfl
  exact step_of_fetch (fetch_of_decode ((hpeek _).trans h0) (fun hn => (hpeek _).trans (h1 hn))
    (fun hn => (hpeek _).trans (h2 hn)) hd)

end Sys2Proof.Machine
end

section
/-! PROOFS. The opcode bytes of a mnemonic (R115, R119), then the loads, the stores and the transfers (R180-R191): what an
instruction of class read or write answers from what its one access answers. -/

namespace Sys2Proof.Machine

/-! The opcode bytes of a mnemonic. -/

/-- The opcode bytes that R115's map gives a mnemonic, each with its mode, in the order of the bytes. -/
def opcodeForms (m : Mnemonic) : List (Byte × Mode) :=
  ((List.range 256).map (BitVec.ofNat 8)).filterMap fun op =>
    if (instrOf op 0 0).mnemonic = m then (instrOf op 0 0).mode.map (op, ·) else none

theorem mem_map_ofNat_range (op : Byte) : op ∈ (List.range 256).map (BitVec.ofNat 8) :=
  List.mem_map.mpr ⟨op.toNat, List.mem_range.mpr op.isLt, (BitVec.ofNat_toNat 8 op).trans (BitVec.setWidth_eq op)⟩

theorem mem_opcodeForms {m : Mnemonic} {op : Byte} {mode : Mode} :
    (op, mode) ∈ opcodeForms m ↔ (instrOf op 0 0).mnemonic = m ∧ (instrOf op 0 0).mode = some mode := by
  rw [opcodeForms, List.mem_filterMap]
  constructor
  · rintro ⟨op', -, h⟩
    split at h
    · next hm =>
      obtain ⟨mode', hmode, e⟩ := Option.map_eq_some_iff.mp h
      cases e
      exact ⟨hm, hmode⟩
    · cases h
  · rintro ⟨hm, hmode⟩
    exact ⟨op, mem_map_ofNat_range op, by rw [if_pos hm, hmode]; rfl⟩

/-- R119: zero operand bytes stand for all, so a mnemonic's forms can be read off the map, in any order. -/
theorem encodedAs_of_perm {m : Mnemonic} {forms : List (Byte × Mode)} (h : (opcodeForms m).Perm forms) :
    EncodedAs m forms := by
  intro op b1 b2 mode
  obtain ⟨hmnemonic, hmode⟩ := instrOf_shape_of_opcode op b1 b2
  rw [hmnemonic, hmode, ← h.mem_iff, mem_opcodeForms]

/-! What an access that succeeds, and one that fails, make of the whole instruction. -/

section
variable {i : Instr} {s : State}

/-- R160: an instruction of class read whose operand is read. -/
theorem exec_of_read {src : Source} {v : Byte} {t : State} (hs : i.source = some src)
    (hr : readSource src (s.advance i.length) = .ok (v, t)) : exec i s = .next (readEffect i.mnemonic v t) := by
  obtain ⟨hexec, hlength, -⟩ := exec_source hs s
  rw [hexec, withSource, ← hlength, hr]

/-- R160, R304: an instruction of class read whose operand cannot be read. -/
theorem exec_of_read_error {src : Source} {f : Fault} (hs : i.source = some src)
    (hr : readSource src (s.advance i.length) = .error f) : exec i s = .fault f := by
  obtain ⟨hexec, hlength, -⟩ := exec_source hs s
  rw [hexec, withSource, ← hlength, hr]

/-- R160: an instruction of class write answers what its one write answers. -/
theorem exec_of_dest {m : Addressed} (hd : i.dest = some m) :
    exec i s = answer (busWrite (effAddr m s) (storedByte i.mnemonic s) (s.advance i.length)) := by
  obtain ⟨hexec, hlength, -⟩ := exec_dest hd s
  rw [hexec, storeAt, hlength]

end

/-- R88: a bus write leaves every register as it was. -/
theorem busWrite_registers {a : Addr} {s t : State} {v : Byte} (h : busWrite a v s = .ok t) :
    t.a = s.a ∧ t.x = s.x ∧ t.y = s.y ∧ t.sp = s.sp ∧ t.p = s.p ∧ t.pc = s.pc := by
  rw [busWrite_state h]
  exact ⟨rfl, rfl, rfl, rfl, rfl, rfl⟩

/-! The obligations. -/

/-- Settles O23: a load is the read effect of its mnemonic on the operand that was read. -/
theorem loadInstructions : Obligations.LoadInstructions := by
  refine ⟨encodedAs_of_perm (by decide +kernel), encodedAs_of_perm (by decide +kernel),
    encodedAs_of_perm (by decide +kernel), fun i src s hs =>
      ⟨fun m t hr => ?_, fun f hr _ => exec_of_read_error hs hr⟩⟩
  rw [exec_of_read hs hr]
  exact ⟨fun hm => hm ▸ rfl, fun hm => hm ▸ rfl, fun hm => hm ▸ rfl⟩

/-- Settles O24: a store is one bus write of its register, which leaves the registers. -/
theorem storeInstructions : Obligations.StoreInstructions := by
  refine ⟨encodedAs_of_perm (by decide +kernel), encodedAs_of_perm (by decide +kernel),
    encodedAs_of_perm (by decide +kernel), fun i m s hd => ⟨storedByte i.mnemonic s, fun hm => hm ▸ rfl,
      fun hm => hm ▸ rfl, fun hm => hm ▸ rfl, fun t hw => ?_, fun f hw => ?_⟩⟩
  · rw [exec_of_dest hd, hw]
    exact ⟨rfl, busWrite_registers hw⟩
  · rw [exec_of_dest hd, hw]
    rfl

/-- Settles O25: the meaning of each transfer is its record update. -/
theorem transferInstructions : Obligations.TransferInstructions :=
  ⟨encodedAs_of_perm (by decide +kernel), encodedAs_of_perm (by decide +kernel), encodedAs_of_perm (by decide +kernel),
    encodedAs_of_perm (by decide +kernel), encodedAs_of_perm (by decide +kernel), encodedAs_of_perm (by decide +kernel),
    fun _ => ⟨rfl, rfl, rfl, rfl, rfl, rfl⟩⟩

end Sys2Proof.Machine
end

section
/-! PROOFS. Arithmetic, logic, compare, increment and decrement (R200-R214): the read effect of each mnemonic on the registers
the operand's read leaves, and what a read-modify-write in memory answers from what its two accesses answer. -/

namespace Sys2Proof.Machine

/-! The accesses of an operand. -/

/-- R160: reading the operand leaves the registers as they were before the instruction. -/
theorem readSource_advance_registers {src : Source} {s t : State} {n : Nat} {v : Byte}
    (h : readSource src (s.advance n) = .ok (v, t)) : t.a = s.a ∧ t.x = s.x ∧ t.y = s.y ∧ t.p = s.p := by
  rw [readSource_state h]
  exact ⟨rfl, rfl, rfl, rfl⟩

section
variable {i : Instr} {m : Addressed} {s : State} (ht : i.target = some (.mem m))
include ht

/-- R160, R304: a read-modify-write in memory whose read fails. -/
theorem exec_of_modify_read_error {f : Fault} (hr : busRead (effAddr m s) (s.advance i.length) = .error f) :
    exec i s = .fault f := by
  obtain ⟨hexec, hlength, -⟩ := exec_target ht s
  rw [hlength, targetLength] at hr
  rw [hexec, modifyTarget, modifyAt, hr]

/-- R160: a read-modify-write in memory whose read succeeds answers what its one write answers, with the new status. -/
theorem exec_of_modify_read {v : Byte} {t : State} (hr : busRead (effAddr m s) (s.advance i.length) = .ok (v, t)) :
    exec i s = answer ((busWrite (effAddr m s) (modifyOp i.mnemonic v s.p).result t).map
      (State.setP · (modifyOp i.mnemonic v s.p).status)) := by
  have hp : t.p = s.p := (busRead_p hr).trans (State.advance_p s i.length)
  obtain ⟨hexec, hlength, -⟩ := exec_target ht s
  rw [hlength, targetLength] at hr
  simp only [hexec, modifyTarget, modifyAt, hr, hp]
  cases busWrite (effAddr m s) (modifyOp i.mnemonic v s.p).result t <;> rfl

/-- R160, R209-R214, R230-R233: what a read-modify-write in memory answers, with its operation written out. -/
theorem exec_of_modify {res status : Byte → Byte}
    (hop : ∀ v, modifyOp i.mnemonic v s.p = { result := res v, status := status v }) :
    (∀ v t u, busRead (effAddr m s) (s.advance i.length) = .ok (v, t) → busWrite (effAddr m s) (res v) t = .ok u →
      exec i s = .next (u.setP (status v))) ∧
    (∀ f, busRead (effAddr m s) (s.advance i.length) = .error f → exec i s = .fault f) ∧
    (∀ v t, busRead (effAddr m s) (s.advance i.length) = .ok (v, t) →
      (∃ u, busWrite (effAddr m s) (res v) t = .ok u) ∨
      ∃ f, busWrite (effAddr m s) (res v) t = .error f ∧ exec i s = .fault f) := by
  refine ⟨fun v t u hr hw => ?_, fun f => exec_of_modify_read_error ht, fun v t hr => ?_⟩
  · rw [exec_of_modify_read ht hr, hop, hw]
    rfl
  · rw [exec_of_modify_read ht hr, hop]
    cases busWrite (effAddr m s) (res v) t with
    | ok u => exact .inl ⟨u, rfl⟩
    | error f => exact .inr ⟨f, rfl, rfl⟩

end

/-- R209, R210: INC and DEC add 1 and -1. -/
theorem modifyOp_of_inc_or_dec {n : Mnemonic} {d : Byte} (h : n = .INC ∧ d = 1 ∨ n = .DEC ∧ d = -1) (v p : Byte) :
    modifyOp n v p = { result := v + d, status := setZN (v + d) p } := by
  rcases h with ⟨rfl, rfl⟩ | ⟨rfl, rfl⟩
  · rfl
  · rw [modifyOp, decrement, BitVec.sub_eq_add_neg]

/-! The obligations. -/

/-- Settles O26: the adder's results written to A, Z, N, V and C, with the A and C from before the instruction. -/
theorem addAndSubtractInstructions : Obligations.AddAndSubtractInstructions := by
  refine ⟨encodedAs_of_perm (by decide +kernel), encodedAs_of_perm (by decide +kernel), fun i src s hs =>
    ⟨fun m t hr => ?_, fun f hr _ => exec_of_read_error hs hr⟩⟩
  obtain ⟨ha, -, -, hp⟩ := readSource_advance_registers hr
  rw [exec_of_read hs hr, ← ha, ← hp]
  exact ⟨fun hm => hm ▸ rfl, fun hm => hm ▸ rfl⟩

/-- Settles O27: the bitwise result written to A, and BIT's flags from M, with the A from before the instruction. -/
theorem logicInstructions : Obligations.LogicInstructions := by
  refine ⟨encodedAs_of_perm (by decide +kernel), encodedAs_of_perm (by decide +kernel),
    encodedAs_of_perm (by decide +kernel), encodedAs_of_perm (by decide +kernel), fun i src s hs =>
      ⟨fun m t hr => ?_, fun f hr _ => exec_of_read_error hs hr⟩⟩
  obtain ⟨ha, -, -, -⟩ := readSource_advance_registers hr
  rw [exec_of_read hs hr, ← ha]
  exact ⟨fun hm => hm ▸ rfl, fun hm => hm ▸ rfl, fun hm => hm ▸ rfl, fun hm => hm ▸ rfl⟩

/-- Settles O28: a compare writes P alone, from the register as it was before the instruction. -/
theorem compareInstructions : Obligations.CompareInstructions := by
  refine ⟨encodedAs_of_perm (by decide +kernel), encodedAs_of_perm (by decide +kernel),
    encodedAs_of_perm (by decide +kernel), fun i src s hs =>
      ⟨fun m t hr => ?_, fun f hr _ => exec_of_read_error hs hr⟩⟩
  obtain ⟨ha, hx, hy, -⟩ := readSource_advance_registers hr
  rw [exec_of_read hs hr, ← ha, ← hx, ← hy]
  exact ⟨fun hm => hm ▸ rfl, fun hm => hm ▸ rfl, fun hm => hm ▸ rfl⟩

/-- Settles O29: INC and DEC are read-modify-writes that add 1 and -1; the register forms are their record updates. -/
theorem incrementAndDecrementInstructions : Obligations.IncrementAndDecrementInstructions :=
  ⟨encodedAs_of_perm (by decide +kernel), encodedAs_of_perm (by decide +kernel), encodedAs_of_perm (by decide +kernel),
    encodedAs_of_perm (by decide +kernel), encodedAs_of_perm (by decide +kernel), encodedAs_of_perm (by decide +kernel),
    fun _ _ _ s ht hd => exec_of_modify ht fun v => modifyOp_of_inc_or_dec hd v s.p,
    fun _ => ⟨rfl, rfl, rfl, rfl⟩⟩

end Sys2Proof.Machine
end

section
/-! PROOFS. The shifts and rotates (R230-R233): a read-modify-write in the accumulator or in memory whose operation is a result
and a bit shifted out. -/

namespace Sys2Proof.Machine

/-- R160, R230-R233: what a read-modify-write in the accumulator answers, with its operation written out. -/
theorem exec_of_modify_acc {i : Instr} {s : State} {res status : Byte → Byte} (ht : i.target = some .acc)
    (hop : ∀ v, modifyOp i.mnemonic v s.p = { result := res v, status := status v }) :
    exec i s = .next { s with a := res s.a, p := status s.a, pc := s.pc + 1 } := by
  obtain ⟨hexec, -, -⟩ := exec_target ht s
  rw [hexec, modifyTarget, hop]
  rfl

/-- Settles O30: each mnemonic's operation gives its result and the flags, taking in the carry before the instruction; the
read-modify-write rules do the rest in the accumulator and in memory. -/
theorem shiftAndRotateInstructions : Obligations.ShiftAndRotateInstructions := by
  refine ⟨encodedAs_of_perm (by decide +kernel), encodedAs_of_perm (by decide +kernel),
    encodedAs_of_perm (by decide +kernel), encodedAs_of_perm (by decide +kernel), fun i s res out h => ?_⟩
  have hop (v : Byte) : modifyOp i.mnemonic v s.p =
      { result := res v, status := setZN (res v) (setFlag .c (out v) s.p) } := by
    rcases h with ⟨hm, rfl, rfl⟩ | ⟨hm, rfl, rfl⟩ | ⟨hm, rfl, rfl⟩ | ⟨hm, rfl, rfl⟩ <;> rw [hm] <;> rfl
  exact ⟨fun ht => exec_of_modify_acc ht hop, fun m ht => exec_of_modify ht hop⟩

end Sys2Proof.Machine
end

section
/-! PROOFS. The stack instructions (R240-R243): the push or pop of the stack engine with PC moved past the opcode byte. -/

namespace Sys2Proof.Machine

/-- R91, R142: a pop neither reads nor writes PC, so PC may move on before it or after it. -/
theorem pop_advance (s : State) (n : Nat) :
    pop (s.advance n) = ((pop s).1, (pop s).2.setPc (s.pc + BitVec.ofNat 16 n)) := by
  rw [pop_eq, pop_eq]
  rfl

/-- R91, R243: pulling P after PC has moved on writes P from the popped byte and the P before the pop. -/
theorem pullStatus_advance (s : State) (n : Nat) : pullStatus (s.advance n) =
    ((pop s).2.setPc (s.pc + BitVec.ofNat 16 n)).setP (pulledStatus (pop s).1 s.p) := by
  simp only [pullStatus, pop_advance, State.setPc_p, pop_p]

theorem exec_plp (s : State) : exec .plp s = .next (pullStatus (s.advance 1)) := rfl

/-- Settles O31: the pushes are their definitions; a pull's pop commutes with moving PC on and leaves P, so the status it
writes is made from the P before the instruction. -/
theorem stackInstructions : Obligations.StackInstructions := by
  refine ⟨encodedAs_of_perm (by decide +kernel), encodedAs_of_perm (by decide +kernel),
    encodedAs_of_perm (by decide +kernel), encodedAs_of_perm (by decide +kernel), fun s => ⟨rfl, rfl, ?_, ?_⟩⟩
  · rw [exec_pla, pop_advance, State.setPc_p, pop_p]
    rfl
  · rw [exec_plp, pullStatus_advance]
    rfl

end Sys2Proof.Machine
end

section
/-! PROOFS. Control transfer (R250-R261, R155, R158): the jumps, with the pointer's high byte in the page of its low byte, the
subroutine call and return, and the branches, with the target as a signed sum modulo 64 KiB. -/

namespace Sys2Proof.Machine

/-! The page of a pointer. -/

theorem word_and (a b c d : Byte) : word a b &&& word c d = word (a &&& c) (b &&& d) := BitVec.and_append

theorem word_or (a b c d : Byte) : word a b ||| word c d = word (a ||| c) (b ||| d) := BitVec.or_append

theorem hiByte_toNat (w : Addr) : (hiByte w).toNat = w.toNat / 0x100 := by
  have h := word_toNat (hiByte w) (loByte w)
  rw [word_hiByte_loByte] at h
  omega

theorem loByte_toNat (w : Addr) : (loByte w).toNat = w.toNat % 0x100 := by
  have h := word_toNat (hiByte w) (loByte w)
  rw [word_hiByte_loByte] at h
  omega

/-- R155: the high byte of the address stays, its low byte is that of the next address. -/
theorem pageNext_eq_word (a : Addr) : pageNext a = word (hiByte a) (loByte (a + 1)) :=
  calc pageNext a
    _ = word (hiByte a) (loByte a) &&& word (BitVec.allOnes 8) 0#8 |||
          word (hiByte (a + 1)) (loByte (a + 1)) &&& word 0#8 (BitVec.allOnes 8) := by
        rw [word_hiByte_loByte, word_hiByte_loByte]
        rfl
    _ = word (hiByte a) (loByte (a + 1)) := by
        rw [word_and, word_and, word_or, BitVec.and_allOnes, BitVec.and_allOnes, BitVec.and_zero, BitVec.and_zero,
          BitVec.or_zero, BitVec.zero_or]

theorem pageNext_toNat (a : Addr) : (pageNext a).toNat = a.toNat / 0x100 * 0x100 + (a.toNat + 1) % 0x100 := by
  have hnext : (a + 1).toNat = (a.toNat + 1) % 0x10000 := BitVec.toNat_add ..
  rw [pageNext_eq_word, word_toNat, hiByte_toNat, loByte_toNat, hnext]
  omega

/-! The jumps. -/

section
variable {w : Addr} {s : State}

/-- R250, R304: JMP IND where the low byte of its target cannot be read. -/
theorem exec_jmpInd_read_error {f : Fault} (h : busRead w (s.advance 3) = .error f) : exec (.jmpInd w) s = .fault f := by
  change execJmpInd w s = _
  rw [execJmpInd, read16PageWrap, readWord, h]

/-- R250, R155: JMP IND whose target's low byte is read answers what the read of the high byte answers. -/
theorem exec_jmpInd_read {lo : Byte} {t : State} (h : busRead w (s.advance 3) = .ok (lo, t)) :
    exec (.jmpInd w) s = answer ((busRead (pageNext w) t).map fun r => r.2.setPc (word r.1 lo)) := by
  change execJmpInd w s = _
  simp only [execJmpInd, read16PageWrap, readWord, h]
  cases busRead (pageNext w) t <;> rfl

end

/-- Settles O32: JMP ABS is its record update; JMP IND follows from its two reads, the second at the one address that the
page wrap gives. -/
theorem jumpInstructions : Obligations.JumpInstructions := by
  refine ⟨encodedAs_of_perm (by decide +kernel), fun w s => ⟨rfl, rfl, fun q hq => ?_⟩⟩
  obtain rfl : q = pageNext w := BitVec.eq_of_toNat_eq (hq.trans (pageNext_toNat w).symm)
  have hpeek : ∀ a, (s.advance 3).peek a = s.peek a := peek_of_fields rfl rfl rfl rfl
  refine ⟨fun lo hi hlo hhi => ?_, fun lo t hi u hlo hhi => ?_, fun f => exec_jmpInd_read_error, fun lo t hlo => ?_⟩
  · rw [exec_jmpInd_read (busRead_of_peek ((hpeek w).trans hlo)), busRead_of_peek ((hpeek _).trans hhi)]
    rfl
  · rw [exec_jmpInd_read hlo, hhi]
    rfl
  · rw [exec_jmpInd_read hlo]
    cases busRead (pageNext w) t with
    | ok r => exact .inl ⟨r.1, r.2, rfl⟩
    | error f => exact .inr ⟨f, rfl, rfl⟩

/-! The subroutine call and return. -/

/-- Settles O33: pushing a return address is two pushes and popping it two pops, by the stack engine's definitions. -/
theorem subroutineInstructions : Obligations.SubroutineInstructions :=
  ⟨encodedAs_of_perm (by decide +kernel), encodedAs_of_perm (by decide +kernel), fun _ s => ⟨rfl, exec_rts s⟩⟩

/-! The branches. -/

/-- R158: the offset is added as a signed number, modulo 64 KiB. -/
theorem branchTarget_toNat (next : Addr) (r : Byte) :
    ((branchTarget next r).toNat : Int) = ((next.toNat : Int) + r.toInt) % 0x10000 := by
  have hoffset : (sext r).toNat = (r.toInt % 0x10000).toNat := BitVec.toNat_ofInt ..
  rw [branchTarget, BitVec.toNat_add, hoffset]
  omega

/-- R158, R253: the target counted from the branch's own address. -/
theorem branchTarget_from_opcode (pc : Addr) (r : Byte) :
    ((branchTarget (pc + 2) r).toNat : Int) = ((pc.toNat : Int) + 2 + r.toInt) % 0x10000 := by
  have hnext : (pc + 2).toNat = (pc.toNat + 2) % 0x10000 := BitVec.toNat_add ..
  rw [branchTarget_toNat, hnext]
  omega

/-- R253: a branch completes with PC at its target or behind its two bytes, and changes nothing else. -/
theorem branch_eq (taken : Bool) (r : Byte) (s : State) :
    branch taken r s = .next (s.setPc (if taken then branchTarget (s.pc + 2) r else s.pc + 2)) := by
  cases taken <;> rfl

/-- Settles O34: each of the eight is `branch` on its own condition, whose PC is the target or the next instruction. -/
theorem branchInstructions : Obligations.BranchInstructions := by
  refine ⟨encodedAs_of_perm (by decide +kernel), encodedAs_of_perm (by decide +kernel),
    encodedAs_of_perm (by decide +kernel), encodedAs_of_perm (by decide +kernel), encodedAs_of_perm (by decide +kernel),
    encodedAs_of_perm (by decide +kernel), encodedAs_of_perm (by decide +kernel), encodedAs_of_perm (by decide +kernel),
    fun r s i taken h => ?_⟩
  have hbranch : i.length = 2 ∧ exec i s = branch taken r s := by
    rcases h with ⟨rfl, rfl⟩ | ⟨rfl, rfl⟩ | ⟨rfl, rfl⟩ | ⟨rfl, rfl⟩ | ⟨rfl, rfl⟩ | ⟨rfl, rfl⟩ | ⟨rfl, rfl⟩ | ⟨rfl, rfl⟩ <;>
      exact ⟨rfl, rfl⟩
  obtain ⟨hlength, hexec⟩ := hbranch
  refine ⟨hlength, _, hexec.trans (branch_eq taken r s), rfl, fun htaken => ?_, fun htaken => ?_⟩
  · rw [State.setPc_pc, if_pos htaken]
    exact branchTarget_from_opcode s.pc r
  · rw [htaken]
    rfl

end Sys2Proof.Machine
end

section
/-! PROOFS. Flag instructions, NOP, BRK and RTI (R270-R279): one flag written or none, the trap taken as far as its vector can
be read, and the trap return with each popped byte named. -/

namespace Sys2Proof.Machine

/-! Taking the trap. -/

/-- R304: a read of the cartridge window with no readable byte there fails. -/
theorem busRead_of_peek_none {a : Addr} {s : State} (ha : 0x8000 ≤ a.toNat) (h : s.peek a = none) :
    busRead a s = .error (s.invalid a .read) := by
  rw [peek_inCart s ha] at h
  simp only [busRead, region_cart ha, h]

/-- R278: the pushes and I of a trap leave the cartridge window as it was. -/
theorem peek_trapFrame {a : Addr} (ha : 0x8000 ≤ a.toNat) (ret : Addr) (s : State) :
    (trapFrame ret s).peek a = s.peek a := by
  rw [peek_inCart _ ha, peek_inCart _ ha, trapFrame, push_eq, pushWord_eq]
  rfl

/-- R278: taking the trap is reading the vector from the trap's frame and going there. -/
theorem takeTrap_eq (ret : Addr) (s : State) :
    takeTrap ret s = (read16 Config.brkVector (trapFrame ret s)).map fun r => r.2.setPc r.1 := by
  rw [takeTrap, push_p, pushWord_p, ← trapFrame]
  cases read16 Config.brkVector (trapFrame ret s) <;> rfl

/-- R278: BRK, with its return address and the two addresses of its vector. -/
theorem exec_brk (s : State) : exec .brk s =
    answer ((readWord 0xFFFE 0xFFFF (trapFrame (s.pc + 2) s)).map fun r => r.2.setPc r.1) :=
  congrArg answer (takeTrap_eq (s.pc + 2) s)

/-- R302: the warnings reported when a trap reads its vector are those of its pushes. -/
theorem trapFrame_warnings (ret : Addr) (s : State) :
    (trapFrame ret s).warnings = (push (pushedStatus s.p) (pushWord ret s)).warnings := rfl

section
variable {s : State}

/-- R278: BRK where both vector bytes can be read. -/
theorem exec_brk_of_vector {lo hi : Byte} (hlo : s.peek 0xFFFE = some lo) (hhi : s.peek 0xFFFF = some hi) :
    exec .brk s = .next ((trapFrame (s.pc + 2) s).setPc (word hi lo)) := by
  rw [← peek_trapFrame (by decide) (s.pc + 2) s] at hlo hhi
  rw [exec_brk, readWord_of_peek hlo hhi]
  rfl

/-- R278, R304: BRK where the vector's low byte is unmapped. -/
theorem exec_brk_low_unmapped (hlo : s.peek 0xFFFE = none) :
    exec .brk s = .fault (.invalidBusAddress 0xFFFE .read
      (push (pushedStatus s.p) (pushWord (s.pc + 2) s)).warnings) := by
  rw [← peek_trapFrame (by decide) (s.pc + 2) s] at hlo
  rw [exec_brk, readWord, busRead_of_peek_none (by decide) hlo, State.invalid, trapFrame_warnings]
  rfl

/-- R278, R304: BRK where only the vector's high byte is unmapped. -/
theorem exec_brk_high_unmapped {lo : Byte} (hlo : s.peek 0xFFFE = some lo) (hhi : s.peek 0xFFFF = none) :
    exec .brk s = .fault (.invalidBusAddress 0xFFFF .read
      (push (pushedStatus s.p) (pushWord (s.pc + 2) s)).warnings) := by
  rw [← peek_trapFrame (by decide) (s.pc + 2) s] at hlo hhi
  simp only [exec_brk, readWord, busRead_of_peek hlo, busRead_of_peek_none (by decide) hhi, State.invalid,
    trapFrame_warnings]
  rfl

/-- R79: under NROM every byte of the cartridge window can be read. -/
theorem peek_of_isNrom (h : s.mapper.isNrom = true) {a : Addr} (ha : 0x8000 ≤ a.toNat) : ∃ v, s.peek a = some v := by
  obtain ⟨size, hsize⟩ := Mapper.isNrom_iff.mp h
  exact ⟨_, (peek_inCart s ha).trans (cartRead_nrom hsize a)⟩

end

/-- Settles O36: BRK pushes three bytes, sets I and answers what the two reads of the vector answer; the pushes do not reach
the vector. -/
theorem breakTakesTheTrap : Obligations.BreakTakesTheTrap := by
  refine ⟨encodedAs_of_perm (by decide +kernel), fun s => ⟨fun lo hi => exec_brk_of_vector, fun hnrom => ?_, ?_⟩⟩
  · obtain ⟨lo, hlo⟩ := peek_of_isNrom hnrom (a := 0xFFFE) (by decide)
    obtain ⟨hi, hhi⟩ := peek_of_isNrom hnrom (a := 0xFFFF) (by decide)
    exact ⟨lo, hi, hlo, hhi, exec_brk_of_vector hlo hhi⟩
  · cases hlo : s.peek 0xFFFE with
    | none => exact exec_brk_low_unmapped hlo
    | some lo =>
      cases hhi : s.peek 0xFFFF with
      | none => exact exec_brk_high_unmapped hlo hhi
      | some hi => exact ⟨_, exec_brk_of_vector hlo hhi⟩

/-! The flag instructions and NOP. -/

/-- R270-R276: a flag instruction ors the flag's mask into P or clears it, and moves PC past its byte. -/
theorem writeFlag_eq (f : Flag) (on : Bool) (s : State) :
    writeFlag f on s = .next { s with p := if on then s.p ||| f.mask else s.p &&& ~~~f.mask, pc := s.pc + 1 } := rfl

/-- Settles O35: each of the seven is `writeFlag` of its own flag, and NOP moves PC alone. -/
theorem flagInstructionsAndNop : Obligations.FlagInstructionsAndNop :=
  ⟨encodedAs_of_perm (by decide +kernel), encodedAs_of_perm (by decide +kernel), encodedAs_of_perm (by decide +kernel),
    encodedAs_of_perm (by decide +kernel), encodedAs_of_perm (by decide +kernel), encodedAs_of_perm (by decide +kernel),
    encodedAs_of_perm (by decide +kernel), encodedAs_of_perm (by decide +kernel),
    fun s => ⟨writeFlag_eq .c false s, writeFlag_eq .c true s, writeFlag_eq .i false s, writeFlag_eq .i true s,
      writeFlag_eq .v false s, writeFlag_eq .d false s, writeFlag_eq .d true s, rfl⟩⟩

/-! The trap return. -/

/-- R91: popping an address neither reads nor writes P, so P may be written before it or after it. -/
theorem popWord_setP (s : State) (v : Byte) : popWord (s.setP v) = ((popWord s).1, (popWord s).2.setP v) :=
  popWord_mapP (fun _ => v) s

/-- R252, R279: popping an address is two pops, low byte first. -/
theorem popWord_pops (s : State) : popWord s = (word (pop (pop s).2).1 (pop s).1, (pop (pop s).2).2) := rfl

/-- R279: the trap return with its three pops in order: P from the first byte, PC from the next two, low byte first. -/
theorem returnFromTrap_pops (s : State) : returnFromTrap s =
    ((pop (pop (pop s).2).2).2.setP (pulledStatus (pop s).1 s.p)).setPc
      (word (pop (pop (pop s).2).2).1 (pop (pop s).2).1) := by
  rw [returnFromTrap_eq, pullStatus, popWord_setP, popWord_pops, pop_p]

theorem exec_rti (s : State) : exec .rti s = .next (returnFromTrap s) := rfl

/-- Settles O37: the address is popped after P is written, which makes no difference to it. -/
theorem returnFromInterruptRestores : Obligations.ReturnFromInterruptRestores := by
  refine ⟨encodedAs_of_perm (by decide +kernel), fun s => ?_⟩
  rw [exec_rti, returnFromTrap_pops]
  rfl

end Sys2Proof.Machine
end

section
/-! PROOFS. Decoding and encoding undo each other (R110-R119). The encoding of a decoded instruction is its opcode
byte and the operand bytes that byte asks for; the illegal entry is decoded from the illegal bytes alone. -/

namespace Sys2Proof

/-! Decoding what was encoded. -/

/-- R112: an instruction with an operand word is decoded from the word's low byte and then its high byte. -/
theorem decode_word_operand {op : Byte} {f : Addr → Instr} (hn : operandCount op = 2)
    (hf : ∀ b1 b2, instrOf op b1 b2 = f (word b2 b1)) (w : Addr) (rest : List Byte) :
    decode (op :: loByte w :: hiByte w :: rest) = .ok (f w, rest) := by
  simp only [decode, hn, hf, word_hiByte_loByte]

/-- R116: an illegal byte asks for no operand bytes. -/
theorem operandCount_of_illegal {op : Byte} (h : isIllegalOpcode op = true) : operandCount op = 0 := by
  rw [operandCount, (isIllegalOpcode_iff_map op).mp h]
  rfl

/-- R116: an illegal byte is decoded alone. -/
theorem decode_illegal {op : Byte} (h : isIllegalOpcode op = true) (rest : List Byte) :
    decode (op :: rest) = .ok (.illegal op, rest) := by
  simp only [decode, operandCount_of_illegal h, (isIllegalOpcode_iff_map op).mp h]

/-- Settles O55: an operand word is put together again from its halves, the illegal entry needs its byte to be
illegal, and every other instruction is read back literally. -/
theorem decodeOfEncodeIsTheInstruction : Obligations.DecodeOfEncodeIsTheInstruction := by
  intro i rest h
  cases i
  case illegal op => exact decode_illegal h rest
  case ldaAbs w | ldaAbsx w | ldaAbsy w | ldxAbs w | ldxAbsy w | ldyAbs w | ldyAbsx w | staAbs w | staAbsx w | staAbsy w
      | stxAbs w | styAbs w | adcAbs w | adcAbsx w | adcAbsy w | sbcAbs w | sbcAbsx w | sbcAbsy w | andAbs w | andAbsx w
      | andAbsy w | oraAbs w | oraAbsx w | oraAbsy w | eorAbs w | eorAbsx w | eorAbsy w | bitAbs w | cmpAbs w | cmpAbsx w
      | cmpAbsy w | cpxAbs w | cpyAbs w | incAbs w | incAbsx w | decAbs w | decAbsx w | aslAbs w | aslAbsx w | lsrAbs w
      | lsrAbsx w | rolAbs w | rolAbsx w | rorAbs w | rorAbsx w | jmpAbs w | jmpInd w | jsr w =>
    exact decode_word_operand rfl (fun _ _ => rfl) w rest
  all_goals rfl

/-! Encoding what was decoded. -/

/-- R112, R119: row by row of R115's map, an entry's encoding takes its opcode byte from the entry and its operand
bytes from what follows. -/
theorem encode_instrOf_shape (op b1 b2 : Byte) : encode (instrOf op b1 b2) =
    (encode (instrOf op 0 0)).take 1 ++ [b1, b2].take (instrOf op b1 b2).operandBytes := by
  unfold instrOf
  split <;> simp only [opcodeRow0, opcodeRow1, opcodeRow2, opcodeRow3, opcodeRow4, opcodeRow5, opcodeRow6, opcodeRow7,
      opcodeRow8, opcodeRow9, opcodeRowA, opcodeRowB, opcodeRowC, opcodeRowD, opcodeRowE, opcodeRowF] <;>
    split <;> simp [encode, Instr.operandBytes, Instr.mode, Mode.operandBytes, loByte_word, hiByte_word]

/-- R115: the map and the encoder give every opcode byte the same place. -/
theorem encode_instrOf_opcode : ∀ op : Byte, (encode (instrOf op 0 0)).take 1 = [op] := by
  decide +kernel

/-- R110, R112: the encoding of an entry is its opcode byte and the operand bytes that byte asks for. -/
theorem encode_instrOf (op b1 b2 : Byte) : encode (instrOf op b1 b2) = op :: [b1, b2].take (operandCount op) := by
  rw [encode_instrOf_shape, encode_instrOf_opcode, operandCount_eq op b1 b2, List.singleton_append]

theorem exists_illegal_of_mnemonic {i : Instr} (h : i.mnemonic = .ILLEGAL) : ∃ op, i = .illegal op := by
  cases i
  case illegal op => exact ⟨op, rfl⟩
  all_goals cases h

/-- R116: every documented instruction is well formed. -/
theorem wf_of_mnemonic {i : Instr} (h : i.mnemonic ≠ .ILLEGAL) : i.wf = true := by
  cases i
  case illegal op => exact absurd rfl h
  all_goals rfl

/-- R116: the illegal entry holds the byte it was selected by. -/
theorem instrOf_mnemonic_illegal_iff (op b1 b2 : Byte) :
    (instrOf op b1 b2).mnemonic = .ILLEGAL ↔ instrOf op b1 b2 = .illegal op := by
  refine ⟨fun h => ?_, fun h => by rw [h]; rfl⟩
  obtain ⟨op', hop'⟩ := exists_illegal_of_mnemonic h
  have hbytes := encode_instrOf op b1 b2
  rw [hop'] at hbytes ⊢
  cases (List.cons.inj hbytes).1
  rfl

/-- R116, R119: the illegal bytes select the illegal entry, whatever bytes follow. -/
theorem isIllegalOpcode_iff_mnemonic (op b1 b2 : Byte) :
    isIllegalOpcode op = true ↔ (instrOf op b1 b2).mnemonic = .ILLEGAL := by
  rw [isIllegalOpcode_iff_map, ← instrOf_mnemonic_illegal_iff, (instrOf_shape_of_opcode op b1 b2).1]

/-- R115, R116: every entry of the map is well formed. -/
theorem instrOf_wf (op b1 b2 : Byte) : (instrOf op b1 b2).wf = true := by
  by_cases h : (instrOf op b1 b2).mnemonic = .ILLEGAL
  · rw [(instrOf_mnemonic_illegal_iff op b1 b2).mp h]
    exact (isIllegalOpcode_iff_mnemonic op b1 b2).mpr h
  · exact wf_of_mnemonic h

theorem operandCount_cases (op : Byte) : operandCount op = 0 ∨ operandCount op = 1 ∨ operandCount op = 2 := by
  have hle : operandCount op ≤ 2 := operandCount_le_two op
  omega

/-- R110: three bytes hold an opcode byte and all the operand bytes it can ask for. -/
theorem exists_decode_three (b0 b1 b2 : Byte) : ∃ i rest, decode [b0, b1, b2] = .ok (i, rest) := by
  rcases operandCount_cases b0 with hn | hn | hn
  all_goals exact ⟨_, _, by simp only [decode, hn]; rfl⟩

/-- Settles O56: the bytes a decoded instruction was taken from are its entry's encoding. -/
theorem encodeOfDecodeIsTheBytes : Obligations.EncodeOfDecodeIsTheBytes := by
  refine ⟨fun bytes rest i h => ?_, exists_decode_three⟩
  obtain ⟨op, b1, b2, rfl, rfl⟩ := decode_ok h
  exact ⟨instrOf_wf op b1 b2, by rw [encode_instrOf, List.cons_append]⟩

/-- Settles O59: each word is run through the decoder. -/
theorem specWordsDecode : Obligations.SpecWordsDecode :=
  ⟨rfl, rfl, rfl, rfl, rfl, rfl, rfl, rfl, rfl⟩

/-! The operand of each access class (R122, R160). -/

theorem source_isSome (i : Instr) : i.source.isSome = decide (i.accessClass = some .read) := by
  cases i <;> rfl

theorem dest_isSome (i : Instr) : i.dest.isSome = decide (i.accessClass = some .write) := by
  cases i <;> rfl

theorem target_inMemory (i : Instr) : i.target.any (· != .acc) = decide (i.accessClass = some .rmw) := by
  cases i <;> rfl

theorem target_acc (i : Instr) : decide (i.target = some .acc) = decide (i.mode = some .acc) := by
  cases i <;> rfl

theorem accessClass_none (i : Instr) : decide (i.accessClass = none) = decide (i.mnemonic = .ILLEGAL) := by
  cases i <;> rfl

theorem any_ne_acc_iff {t : Option Target} : t.any (· != .acc) = true ↔ ∃ m, t = some (.mem m) := by
  rcases t with _ | _ | m <;> simp

/-- Settles O21: the classes read off the descriptors; the lengths are those of the three operand shapes. -/
theorem accessClassesHaveTheirOperands : Obligations.AccessClassesHaveTheirOperands := by
  intro i
  refine ⟨?_, ?_, ?_, (decide_eq_decide.mp (target_acc i)).symm, decide_eq_decide.mp (accessClass_none i), fun src h => ?_,
    fun m h => ?_, fun t h => ?_⟩
  · rw [source_isSome, decide_eq_true_iff]
  · rw [dest_isSome, decide_eq_true_iff]
  · rw [← any_ne_acc_iff, target_inMemory, decide_eq_true_iff]
  · exact (Machine.exec_source h .reset).2.1
  · exact (Machine.exec_dest h .reset).2.1
  · exact (Machine.exec_target h .reset).2.1

/-! The illegal entry. -/

/-- Settles O38: the illegal bytes are decoded alone, and the step runs the illegal entry. -/
theorem illegalOpcodeIsReported : Obligations.IllegalOpcodeIsReported := by
  refine ⟨fun op b1 b2 => ⟨?_, fun h => ?_⟩, rfl, fun _ => ⟨rfl, rfl⟩, fun _ _ => rfl, fun op s h hpc => ?_⟩
  · rw [isIllegalOpcode_iff_mnemonic op b1 b2, instrOf_mnemonic_illegal_iff]
  · rw [Ne, ← isIllegalOpcode_iff_mnemonic, h]
    exact Bool.false_ne_true
  · have hn : operandCount op = 0 := operandCount_of_illegal h
    exact Machine.stepRunsTheDecodedInstruction.1 s op 0 0 _ _ hpc (by omega) (by omega) (decode_illegal h [0, 0])

end Sys2Proof
end

section
/-! PROOFS. Memory as data, the routing of the bus and the stack engine as bus accesses (R72-R92): canonical memories
are told apart by the bytes they read, and what was pushed is popped. -/

namespace Sys2Proof.Machine

/-! Canonical memories. -/

/-- A listed cell of the canonical form reads as something an unlisted key does not. -/
theorem Memory.wf_cons {c : Host.Cell} {m : Memory} (h : Memory.wf (c :: m)) :
    (∀ d ∈ m, c.1 < d.1) ∧ c.2 ≠ Config.unlistedByte ∧ Memory.wf m := by
  obtain ⟨hsorted, hlisted⟩ := h
  obtain ⟨hc, hm⟩ := List.pairwise_cons.mp hsorted
  exact ⟨hc, hlisted c (by simp), hm, fun d hd => hlisted d (by simp [hd])⟩

/-- The first key of a canonical memory is the least key another memory with the same bytes can list. -/
theorem Memory.not_lt_head {c : Host.Cell} {m n : Memory} (hm : Memory.wf (c :: m))
    (hread : Memory.read (c :: m) c.1 = n.read c.1) : ¬ ∀ d ∈ n, c.1 < d.1 := by
  intro hlt
  obtain ⟨-, hc, -⟩ := Memory.wf_cons hm
  rw [Memory.read_below hlt, Memory.read_cons, if_pos rfl] at hread
  exact hc hread

/-- A canonical memory is the list of its listed bytes. -/
theorem Memory.ext_of_read {m n : Memory} (hm : m.wf) (hn : n.wf) (h : ∀ k, m.read k = n.read k) : m = n := by
  induction m generalizing n with
  | nil =>
    cases n with
    | nil => rfl
    | cons d n => exact absurd (fun _ hc => nomatch hc) (Memory.not_lt_head hn (h d.1).symm)
  | cons c m ih =>
    cases n with
    | nil => exact absurd (fun _ hc => nomatch hc) (Memory.not_lt_head hm (h c.1))
    | cons d n =>
      obtain ⟨hcm, -, hm'⟩ := Memory.wf_cons hm
      obtain ⟨hdn, -, hn'⟩ := Memory.wf_cons hn
      have hkey : c.1 = d.1 := by
        refine Nat.le_antisymm (Nat.le_of_not_lt fun hlt => ?_) (Nat.le_of_not_lt fun hlt => ?_)
        · exact Memory.not_lt_head hn (h d.1).symm fun e he =>
            (List.mem_cons.mp he).elim (fun e' => e' ▸ hlt) fun he => Nat.lt_trans hlt (hcm e he)
        · exact Memory.not_lt_head hm (h c.1) fun e he =>
            (List.mem_cons.mp he).elim (fun e' => e' ▸ hlt) fun he => Nat.lt_trans hlt (hdn e he)
      have hbyte : c.2 = d.2 := by simpa [Memory.read_cons, hkey] using h c.1
      have htail : m = n := by
        refine ih hm' hn' fun k => ?_
        by_cases hk : c.1 = k
        · rw [Memory.read_below fun e he => hk ▸ hcm e he, Memory.read_below fun e he => hk ▸ hkey ▸ hdn e he]
        · have hk' : d.1 ≠ k := hkey ▸ hk
          simpa [Memory.read_cons, hk, hk'] using h k
      rw [htail, Prod.ext hkey hbyte]

/-- Settles O60: equality by the bytes, which a write of the byte already there leaves alone. -/
theorem memoryIsEqualByItsBytes : Obligations.MemoryIsEqualByItsBytes := by
  refine ⟨fun m n => Memory.ext_of_read, fun m k hm => Memory.ext_of_read (Memory.write_wf k _ hm) hm fun j => ?_⟩
  by_cases hj : j = k
  · rw [hj, Memory.read_write_same]
  · rw [Memory.read_write_other m _ hj]

/-! The three regions. -/

/-- R81: a translated mapper reads by its read function where it leaves no gap. -/
theorem cartRead_translated {s : State} {id : Byte} {len : Nat} {tr : MapperTranslate}
    (h : s.mapper = .translated id len tr) (a : Addr) :
    s.cartRead a = if tr.leavesUnmapped a then none else some (tr.readByte s.prg len s.mapperState a) := by
  simp only [State.cartRead, h]

/-- R83: a supplied region that answers a read, from the accesses it has seen. -/
theorem busRead_device {a : Addr} {s : State} {v : Byte} (ha : unmapped a) (hd : s.ext = .device)
    (hv : Config.extRead s.extLog a = some v) : busRead a s = .ok (v, s.setExtLog (s.extLog ++ [.read a])) := by
  simp only [busRead, region_ext ha.1 ha.2, hd, hv]

/-- R83: a supplied region that does not answer a read. -/
theorem busRead_device_error {a : Addr} {s : State} (ha : unmapped a) (hd : s.ext = .device)
    (hv : Config.extRead s.extLog a = none) : busRead a s = .error (s.invalid a .read) := by
  simp only [busRead, region_ext ha.1 ha.2, hd, hv]

/-- R83: a supplied region takes a write or not, from the accesses it has seen. -/
theorem busWrite_device {a : Addr} {s : State} (v : Byte) (ha : unmapped a) (hd : s.ext = .device) :
    busWrite a v s = if Config.extTakes s.extLog a v then .ok (s.setExtLog (s.extLog ++ [.write a v]))
      else .error (s.invalid a .write) := by
  simp only [busWrite, region_ext ha.1 ha.2, hd]

/-- Settles O3: one rule of the bus for each region, and for each kind of mapper in the cartridge window. -/
theorem busRoutesEachAddress : Obligations.BusRoutesEachAddress := by
  intro a s
  refine ⟨fun ha => ?_, fun ha he => ⟨busRead_unmapped ha he, fun v => busWrite_unmapped v ha he⟩,
    fun ha hd => ⟨?_, fun v => busWrite_device v ha hd⟩, fun ha size hm => ?_,
    fun ha id len tr hm => ⟨fun hgap => ?_, fun hgap => ⟨leavesUnmapped_vector hgap, ?_⟩, fun v => ?_⟩⟩
  · rw [ramMask_toNat]
    exact ⟨busRead_inRam s ha, fun v => busWrite_inRam v s ha⟩
  · cases hv : Config.extRead s.extLog a with
    | some v => exact busRead_device ha hd hv
    | none => exact busRead_device_error ha hd hv
  · refine ⟨busRead_nrom ha hm, fun v => ?_⟩
    rw [busWrite_inCart v s ha, cartWrite_nrom hm]
  · refine busRead_of_peek ?_
    rw [peek_inCart s ha, cartRead_translated hm, hgap]
    rfl
  · refine busRead_of_peek_none ha ?_
    rw [peek_inCart s ha, cartRead_translated hm, hgap]
    rfl
  · rw [busWrite_inCart v s ha, cartWrite_translated hm]
    rfl

/-! The stack engine and the zero page on the bus. -/

/-- R92: a stack byte is a RAM byte of its own address. -/
theorem busWrite_stackAddr (v sp : Byte) (s : State) :
    busWrite (stackAddr sp) v s = .ok (s.setRam (s.ram.write (stackIndex sp) v)) := by
  have hk : stackIndex sp % 0x800 = stackIndex sp := Nat.mod_eq_of_lt (stackIndex_lt sp)
  rw [busWrite_inRam v s (stackAddr_inRam sp), stackAddr_toNat, hk]

/-- R74: a zero-page byte is a RAM byte of its own address. -/
theorem peek_zext (s : State) (z : Byte) : s.peek (zext z) = some (s.zpRead z) := by
  have hz : (zext z).toNat = z.toNat := zext_toNat z
  rw [peek_inRam s (by omega), hz, Nat.mod_eq_of_lt (by omega)]
  rfl

/-- Settles O14: the stack page and the zero page are readable and writable RAM. -/
theorem stackAndZeroPageAreOrdinaryRam : Obligations.StackAndZeroPageAreOrdinaryRam := by
  intro v z s
  refine ⟨?_, ?_, busRead_of_peek (peek_zext s z)⟩
  · rw [busWrite_stackAddr, push_eq]
    rfl
  · rw [pop_eq]
    exact busRead_of_peek (peek_stackAddr s (s.sp + 1))

/-! Popping what was pushed. -/

theorem stackIndex_inj {sp sp' : Byte} : stackIndex sp = stackIndex sp' ↔ sp = sp' := by
  rw [stackIndex, stackIndex, Nat.add_left_cancel_iff, BitVec.toNat_inj]

theorem push_sp (v : Byte) (s : State) : (push v s).sp = s.sp - 1 := by rw [push_eq]

theorem pop_sp (s : State) : (pop s).2.sp = s.sp + 1 := by rw [pop_eq]

theorem push_ram (v : Byte) (s : State) : (push v s).ram = s.ram.write (stackIndex s.sp) v := by rw [push_eq]

theorem pop_ram (s : State) : (pop s).2.ram = s.ram := by rw [pop_eq]

/-- R91: the popped byte is the stack byte one above. -/
theorem pop_byte (s : State) : (pop s).1 = s.ram.read (stackIndex (s.sp + 1)) := by rw [pop_eq]

/-- R90, R91: a pop right after a push. -/
theorem pop_byte_push (v : Byte) (s : State) : (pop (push v s)).1 = v := by
  rw [pop_byte, push_ram, push_sp, BitVec.sub_add_cancel, Memory.read_write_same]

theorem pop_sp_push (v : Byte) (s : State) : (pop (push v s)).2.sp = s.sp := by
  rw [pop_sp, push_sp, BitVec.sub_add_cancel]

/-- R90, R91: the byte below the one popped first is the one pushed before it. -/
theorem pop_byte_push_push (v w : Byte) (s : State) : (pop (pop (push w (push v s))).2).1 = v := by
  have hne : stackIndex s.sp ≠ stackIndex (s.sp - 1) := by
    rw [Ne, stackIndex_inj]
    bv_omega
  rw [pop_byte, pop_ram, pop_sp_push, push_ram, push_ram, push_sp, BitVec.sub_add_cancel, Memory.read_write_other _ _ hne,
    Memory.read_write_same]

/-- R85: a return address pushed is popped. -/
theorem popWord_word_pushWord (w : Addr) (s : State) : (popWord (pushWord w s)).1 = w := by
  rw [popWord_pops, pushWord, pop_byte_push, pop_byte_push_push, word_hiByte_loByte]

theorem popWord_sp_pushWord (w : Addr) (s : State) : (popWord (pushWord w s)).2.sp = s.sp := by
  rw [popWord_pops, pushWord, pop_sp, pop_sp_push, push_sp, BitVec.sub_add_cancel]

/-- Settles O13: a byte and a word, popped right after they were pushed. -/
theorem poppingReturnsWhatWasPushed : Obligations.PoppingReturnsWhatWasPushed := fun v w s =>
  ⟨pop_byte_push v s, pop_sp_push v s, popWord_word_pushWord w s, popWord_sp_pushWord w s⟩

end Sys2Proof.Machine
end

section
/-! PROOFS. Loading a cartridge and calling reset (R77-R81, R307, R340-R344): the mapper an id selects, the images a
loaded state holds, and the registers and the vector of a reset. -/

namespace Sys2Proof.Machine

/-! The mapper of an id. -/

/-- R78: a byte's high nibble in place. -/
theorem highNibble_toNat : ∀ b : Byte, (b &&& (0xF0 : Byte)).toNat = b.toNat / 16 * 16 := by decide

/-- R78: a byte's high nibble moved down. -/
theorem highNibble_shifted_toNat (b : Byte) : ((b &&& (0xF0 : Byte)) >>> (4 : Nat)).toNat = b.toNat / 16 := by
  rw [BitVec.toNat_ushiftRight, highNibble_toNat, Nat.shiftRight_eq_div_pow]
  omega

/-- R78: the id's two nibbles. -/
theorem mapperId_toNat (flags6 flags7 : Byte) :
    (mapperId flags6 flags7).toNat = flags7.toNat / 16 * 16 + flags6.toNat / 16 := by
  have hlow : flags6.toNat / 16 < 2 ^ 4 := by omega
  have hor := Nat.shiftLeft_add_eq_or_of_lt hlow (flags7.toNat / 16)
  rw [Nat.shiftLeft_eq] at hor
  rw [mapperId, BitVec.toNat_or, highNibble_toNat, highNibble_shifted_toNat]
  exact hor.symm

/-- R81: an id other than 0 selects the MAPPER_TRANSLATE given for it. -/
theorem selectMapper_translated {id : Byte} (hid : id ≠ 0) {translates : Byte → Option MapperTranslate}
    {tr : MapperTranslate} (h : translates id = some tr) (prg : List Byte) :
    selectMapper id prg translates = .ok (.translated id prg.length tr) := by
  simp only [selectMapper, hid, if_false, h]

/-- R77, R307: an id other than 0 with no MAPPER_TRANSLATE is not supported. -/
theorem selectMapper_unsupported {id : Byte} (hid : id ≠ 0) {translates : Byte → Option MapperTranslate}
    (h : translates id = none) (prg : List Byte) : selectMapper id prg translates = .error (.unsupportedMapper id) := by
  simp only [selectMapper, hid, if_false, h]

/-- R79: id 0 selects NROM with the size of the PRG buffer. -/
theorem selectMapper_nrom {prg : List Byte} {size : PrgSize} (h : prg.length = size.bytes)
    (translates : Byte → Option MapperTranslate) : selectMapper 0 prg translates = .ok (.nrom size) := by
  cases size with
  | k16 => simp only [selectMapper, if_true, h]
  | k32 =>
    have hne : PrgSize.k32.bytes ≠ PrgSize.k16.bytes := by decide
    simp only [selectMapper, if_true, h, hne, if_false]

/-! The loaded state. -/

/-- The state load answers once the mapper is selected. -/
def loadedState (mapper : Mapper) (prg ramInit : List Byte) (ext : ExtRegion) : State :=
  { State.reset with
    ram := imageFrom 0 (ramInit.take Config.ramBytes)
    prg := imageFrom 0 prg
    mapper := mapper
    mapperState := mapper.initialState
    ext := ext }

section
variable {id : Byte} {prg ramInit : List Byte} {translates : Byte → Option MapperTranslate} {ext : ExtRegion}

theorem load_of_selectMapper {mapper : Mapper} (h : selectMapper id prg translates = .ok mapper) :
    load id prg ramInit translates ext = .ok (loadedState mapper prg ramInit ext) := by
  rw [load, h]
  rfl

theorem load_of_selectMapper_error {e : LoadError} (h : selectMapper id prg translates = .error e) :
    load id prg ramInit translates ext = .error e := by
  rw [load, h]

/-- R79: id 0 can fail on the length of the PRG buffer alone. -/
theorem load_zero_error {e : LoadError} (h : load 0 prg ramInit translates ext = .error e) :
    e = .prgLength prg.length := by
  by_cases h16 : prg.length = PrgSize.k16.bytes
  · rw [load_of_selectMapper (selectMapper_nrom h16 translates)] at h
    cases h
  · by_cases h32 : prg.length = PrgSize.k32.bytes
    · rw [load_of_selectMapper (selectMapper_nrom h32 translates)] at h
      cases h
    · rw [load_of_selectMapper_error (selectMapper_nrom_error h16 h32 translates)] at h
      cases h
      rfl

/-- The keys of an image are its offsets. -/
theorem imageFrom_key_lt {l : List Byte} {c : Host.Cell} (h : c ∈ imageFrom 0 l) : c.1 < l.length := by
  have hc := (imageFrom_cell h).2.1
  omega

theorem imageFrom_read {l : List Byte} {k : Nat} (hk : k < l.length) : (imageFrom 0 l).read k = l[k] := by
  have hread := imageFrom_read_key (k := 0) hk
  rwa [Nat.zero_add] at hread

/-- A loaded state is well formed where the mapper was loaded with the PRG buffer's length. -/
theorem loadedState_wf {mapper : Mapper} (h : ∀ k, k < prg.length → mapper.holdsOffset k = true) :
    (loadedState mapper prg ramInit ext).wf := by
  refine ⟨imageFrom_canonical _ _, fun c hc => ?_, imageFrom_canonical _ _, fun c hc => h _ (imageFrom_key_lt hc), ?_,
    fun _ => rfl⟩
  · exact Nat.lt_of_lt_of_le (imageFrom_key_lt hc) (List.length_take_le _ _)
  · intro hnrom
    obtain ⟨size, rfl⟩ := Mapper.isNrom_iff.mp hnrom
    rfl

/-- R79: NROM's window of a loaded cartridge is the PRG buffer. -/
theorem busRead_loaded_cart {size : PrgSize} (hlen : prg.length = size.bytes) {a : Addr} (ha : 0x8000 ≤ a.toNat) :
    ∃ v, prg[(a.toNat - 0x8000) % prg.length]? = some v ∧
      busRead a (loadedState (.nrom size) prg ramInit ext) = .ok (v, loadedState (.nrom size) prg ramInit ext) := by
  have hpos : 0 < size.bytes := by cases size <;> decide
  have hk : nromOffset size a < prg.length := hlen ▸ Nat.mod_lt _ hpos
  refine ⟨prg[nromOffset size a], by rw [hlen]; exact List.getElem?_eq_getElem hk, ?_⟩
  rw [busRead_nrom ha rfl, loadedState, imageFrom_read hk]

/-- R73: the RAM of a loaded state is the RAM image. -/
theorem busRead_loaded_ram {mapper : Mapper} (hlen : ramInit.length = 2048) {a : Addr} (ha : a.toNat < 0x2000) :
    ∃ v, ramInit[(a &&& 0x07FF).toNat]? = some v ∧
      busRead a (loadedState mapper prg ramInit ext) = .ok (v, loadedState mapper prg ramInit ext) := by
  have hk : a.toNat % 0x800 < ramInit.length := by omega
  refine ⟨ramInit[a.toNat % 0x800], by rw [ramMask_toNat, List.getElem?_eq_getElem hk], ?_⟩
  have htake : ramInit.take Config.ramBytes = ramInit := List.take_of_length_le (Nat.le_of_eq hlen)
  rw [busRead_inRam _ ha, loadedState, htake, imageFrom_read hk]

end

/-- Settles O7: the id as a sum of its nibbles, and the mapper an id selects. -/
theorem unsupportedMapperFailsAtLoad : Obligations.UnsupportedMapperFailsAtLoad := by
  refine ⟨fun flags6 flags7 => ⟨rfl, mapperId_toNat flags6 flags7⟩, fun id prg ramInit translates ext =>
    ⟨fun hid h => load_of_selectMapper_error (selectMapper_unsupported hid h prg), fun tr hid h =>
      ⟨_, load_of_selectMapper (selectMapper_translated hid h prg), rfl⟩, fun j h => ?_⟩⟩
  cases load_zero_error h

/-- Settles O6: an image is read back key by key, and its keys lie in the buffer it was made of. -/
theorem loadedCartridgeHoldsItsImages : Obligations.LoadedCartridgeHoldsItsImages := by
  refine ⟨fun prg ramInit translates ext hprg hram => ?_, fun id tr prg ramInit translates ext s hid htr hload => ?_⟩
  · obtain ⟨size, hsize⟩ : ∃ size : PrgSize, prg.length = size.bytes :=
      hprg.elim (fun h => ⟨.k16, h⟩) fun h => ⟨.k32, h⟩
    refine ⟨_, load_of_selectMapper (selectMapper_nrom hsize translates), rfl, loadedState_wf fun k hk => ?_,
      fun a => busRead_loaded_cart hsize, fun a => busRead_loaded_ram hram⟩
    exact decide_eq_true (hsize ▸ hk)
  · rw [load_of_selectMapper (selectMapper_translated hid htr prg)] at hload
    cases hload
    exact ⟨loadedState_wf fun k hk => decide_eq_true hk, rfl, rfl, fun k hk => imageFrom_read hk⟩

/-! Reset. -/

/-- R340: the state in which reset reads its vector. -/
def resetRegisters (pReset : Byte) (s : State) : State :=
  { s with a := 0, x := 0, y := 0, p := pReset, sp := 0xFF, warnings := [], error := none }

/-- R340: reset is reading the vector after the registers are set, and going there. -/
theorem hostReset_eq (pReset : Byte) (s : State) : hostReset pReset s =
    (readWord 0xFFFC 0xFFFD (resetRegisters pReset s)).map fun r => r.2.setPc r.1 := by
  change (match readWord 0xFFFC 0xFFFD (resetRegisters pReset s) with
    | .error f => Except.error f
    | .ok (target, t) => .ok (t.setPc target)) = _
  cases readWord 0xFFFC 0xFFFD (resetRegisters pReset s) <;> rfl

theorem peek_resetRegisters (pReset : Byte) (s : State) (a : Addr) : (resetRegisters pReset s).peek a = s.peek a :=
  peek_of_fields rfl rfl rfl rfl a

section
variable {s : State} (pReset : Byte)

/-- R340, R341: reset where both vector bytes can be read. -/
theorem hostReset_of_vector {lo hi : Byte} (hlo : s.peek 0xFFFC = some lo) (hhi : s.peek 0xFFFD = some hi) :
    hostReset pReset s = .ok ((resetRegisters pReset s).setPc (word hi lo)) := by
  rw [← peek_resetRegisters pReset s] at hlo hhi
  rw [hostReset_eq, readWord_of_peek hlo hhi]
  rfl

/-- R342: reset where the vector's low byte is unmapped. -/
theorem hostReset_low_unmapped (hlo : s.peek 0xFFFC = none) :
    hostReset pReset s = .error (.invalidBusAddress 0xFFFC .read []) := by
  rw [← peek_resetRegisters pReset s] at hlo
  rw [hostReset_eq, readWord, busRead_of_peek_none (by decide) hlo]
  rfl

/-- R342: reset where only the vector's high byte is unmapped. -/
theorem hostReset_high_unmapped {lo : Byte} (hlo : s.peek 0xFFFC = some lo) (hhi : s.peek 0xFFFD = none) :
    hostReset pReset s = .error (.invalidBusAddress 0xFFFD .read []) := by
  rw [← peek_resetRegisters pReset s] at hlo hhi
  simp only [hostReset_eq, readWord, busRead_of_peek hlo, busRead_of_peek_none (by decide) hhi]
  rfl

end

/-- Settles O8: reset answers what the two reads of the vector answer, and NROM answers both. -/
theorem hostResetSetsTheRegisters : Obligations.HostResetSetsTheRegisters := by
  refine fun pReset s => ⟨fun lo hi => hostReset_of_vector pReset, fun hnrom => ?_, ?_⟩
  · obtain ⟨lo, hlo⟩ := peek_of_isNrom hnrom (a := 0xFFFC) (by decide)
    obtain ⟨hi, hhi⟩ := peek_of_isNrom hnrom (a := 0xFFFD) (by decide)
    exact ⟨_, hostReset_of_vector pReset hlo hhi⟩
  · cases hlo : s.peek 0xFFFC with
    | none => exact hostReset_low_unmapped pReset hlo
    | some lo =>
      cases hhi : s.peek 0xFFFD with
      | none => exact hostReset_high_unmapped pReset hlo hhi
      | some hi => exact ⟨_, hostReset_of_vector pReset hlo hhi⟩

/-- Settles O9: the vector of the empty image is two unlisted bytes, so reset leaves PC at 0x0000. -/
theorem resetStateIsAHostReset : Obligations.ResetStateIsAHostReset :=
  ⟨rfl, rfl, rfl, rfl, rfl, ⟨rfl, rfl⟩, _, hostReset_of_vector (s := .reset) Config.pResetDefault rfl rfl, rfl⟩

/-- Settles O10: the empty memories are canonical, and nothing keeps a history. -/
theorem resetStateIsWellFormed : Obligations.ResetStateIsWellFormed := by
  refine ⟨⟨⟨.nil, ?_⟩, ?_, ⟨.nil, ?_⟩, ?_, fun _ => rfl, fun _ => rfl⟩, rfl, rfl, rfl⟩ <;> exact fun _ hc => nomatch hc

end Sys2Proof.Machine
end

section
/-! PROOFS. What every step keeps (R30, R52, R349). A property of the configuration and of what stands behind the bus
that each bus read and each bus write keeps is kept by every instruction, every step and every run: the stack engine
works by RAM writes, and everything else an instruction does is on the registers and the outputs. -/

namespace Sys2Proof.Machine

/-! One bus access at a time. -/

/-- A property of configuration and bus state that single accesses keep. -/
structure BusInvariant (P : State → Prop) : Prop where
  of_bus : ∀ {s t : State}, P s → t.parameters = s.parameters → t.busState = s.busState → P t
  read : ∀ {a : Addr} {v : Byte} {s t : State}, busRead a s = .ok (v, t) → P s → P t
  write : ∀ {a : Addr} {v : Byte} {s t : State}, busWrite a v s = .ok t → P s → P t

namespace BusInvariant
variable {P : State → Prop} (hP : BusInvariant P) {s t : State}
include hP

/-- R90, R92: a push leaves behind the bus what a write of the stack byte leaves. -/
theorem push (h : P s) (v : Byte) : P (Machine.push v s) := by
  refine hP.of_bus (hP.write (busWrite_stackAddr v s.sp s) h) ?_ ?_ <;> rw [push_eq] <;> rfl

theorem pushWord (h : P s) (w : Addr) : P (Machine.pushWord w s) := hP.push (hP.push h _) _

theorem pop (h : P s) : P (Machine.pop s).2 := by
  refine hP.of_bus h ?_ ?_ <;> rw [pop_eq] <;> rfl

theorem popWord (h : P s) : P (Machine.popWord s).2 := hP.pop (hP.pop h)

theorem pullStatus (h : P s) : P (Machine.pullStatus s) := hP.of_bus (hP.pop h) rfl rfl

theorem setPc (h : P s) (w : Addr) : P (s.setPc w) := hP.of_bus h rfl rfl

theorem advance (h : P s) (n : Nat) : P (s.advance n) := hP.setPc h _

theorem returnFromTrap (h : P s) : P (Machine.returnFromTrap s) := by
  rw [returnFromTrap_eq]
  exact hP.setPc (hP.popWord (hP.pullStatus h)) _

theorem readWord {lo hi w : Addr} (hr : Machine.readWord lo hi s = .ok (w, t)) (h : P s) : P t := by
  obtain ⟨l, u, b, hlo, hhi, -⟩ := readWord_ok hr
  exact hP.read hhi (hP.read hlo h)

theorem readSource {src : Source} {v : Byte} (hr : Machine.readSource src s = .ok (v, t)) (h : P s) : P t := by
  cases src with
  | imm w => cases hr; exact h
  | mem m => exact hP.read hr h

theorem takeTrap {ret : Addr} (ht : Machine.takeTrap ret s = .ok t) (h : P s) : P t := by
  obtain ⟨w, u, hr, rfl⟩ := takeTrap_ok ht
  have hframe : P (trapFrame ret s) := hP.of_bus (hP.push (hP.pushWord h ret) (pushedStatus s.p)) rfl rfl
  exact hP.setPc (hP.readWord hr hframe) w

theorem jmpInd {w : Addr} (he : Machine.exec (.jmpInd w) s = .next t) (h : P s) : P t := by
  change execJmpInd w s = .next t at he
  unfold execJmpInd at he
  split at he
  · next target u hr =>
    cases he
    exact hP.setPc (hP.readWord hr (hP.advance h 3)) target
  · cases he

/-- The instructions without an operand. -/
theorem exec_noOperand {i : Instr} (hs : i.source = none) (hd : i.dest = none) (ht : i.target = none)
    (he : Machine.exec i s = .next t) (h : P s) : P t := by
  cases i
  case tax | tay | txa | tya | tsx | txs | inx | iny | dex | dey => cases he; exact hP.of_bus h rfl rfl
  case clc | sec | cli | sei | clv | cld | sed | nop | illegal | jmpAbs => cases he; exact hP.of_bus h rfl rfl
  case bcc | bcs | beq | bne | bmi | bpl | bvc | bvs => cases (branch_eq _ _ s).symm.trans he; exact hP.setPc h _
  case pha | php => cases he; exact hP.push (hP.advance h 1) _
  case pla => cases (exec_pla s).symm.trans he; exact hP.of_bus (hP.pop (hP.advance h 1)) rfl rfl
  case plp => cases (exec_plp s).symm.trans he; exact hP.pullStatus (hP.advance h 1)
  case jsr w => cases he; exact hP.setPc (hP.pushWord h (s.pc + 2)) w
  case rts => cases (exec_rts s).symm.trans he; exact hP.setPc (hP.popWord h) _
  case rti => cases (exec_rti s).symm.trans he; exact hP.returnFromTrap h
  case brk => exact hP.takeTrap (execBrk_next he) h
  case jmpInd w => exact hP.jmpInd he h
  all_goals cases hs <;> cases hd <;> cases ht

theorem exec {i : Instr} (he : Machine.exec i s = .next t) (h : P s) : P t := by
  rcases exec_next he with ⟨src, v, u, -, hr, rfl⟩ | ⟨m, -, hw⟩ | ⟨m, v, u, w, -, hr, hw, rfl⟩ | ⟨-, rfl⟩ | ⟨hs, hd, ht⟩
  · refine hP.of_bus (hP.readSource hr (hP.advance h _)) ?_ ?_ <;> rw [readEffect_state] <;> rfl
  · exact hP.write hw (hP.advance h _)
  · exact hP.of_bus (hP.write hw (hP.read hr (hP.advance h _))) rfl rfl
  · exact hP.of_bus h rfl rfl
  · exact hP.exec_noOperand hs hd ht he h

theorem fetch {i : Instr} (hf : Machine.fetch s = .ok (i, t)) (h : P s) : P t := by
  unfold Machine.fetch at hf
  split at hf
  · cases hf
  · next op u h0 =>
    have hu := hP.read h0 h
    split at hf
    · cases hf; exact hu
    · split at hf
      · cases hf
      · next h1 => cases hf; exact hP.read h1 hu
    · split at hf
      · cases hf
      · next h1 =>
        split at hf
        · cases hf
        · next h2 => cases hf; exact hP.read h2 (hP.read h1 hu)

/-- R140: every step keeps it. -/
theorem step (he : Machine.step s = .next t) (h : P s) : P t := by
  obtain ⟨i, u, hf, hi⟩ := step_next he
  exact hP.exec hi (hP.fetch hf (hP.of_bus h rfl rfl))

/-- Every run keeps it. -/
theorem reaches (hr : Reaches s t) (h : P s) : P t := by
  induction hr with
  | refl s => exact h
  | step head _ ih => exact ih (hP.step head h)

end BusInvariant

/-! Well-formed states. -/

/-- R73, R79: a bus write keeps a state well formed. -/
theorem busWrite_wf {a : Addr} {v : Byte} {s t : State} (hw : busWrite a v s = .ok t) (h : s.wf) : t.wf := by
  obtain ⟨hram, hkeys, hprg, hoffsets, hnrom, hext⟩ := h
  rcases busWrite_ok hw with ⟨k, hk, rfl⟩ | ⟨-, rfl⟩ | ⟨-, hd, rfl⟩
  · exact ⟨Memory.write_wf k v hram, Memory.write_bound v hkeys (region_index_lt hk), hprg, hoffsets, hnrom, hext⟩
  · cases hm : s.mapper with
    | nrom size =>
      rw [cartWrite_nrom hm]
      exact ⟨hram, hkeys, hprg, hoffsets, hnrom, hext⟩
    | translated id len tr =>
      rw [cartWrite_translated hm]
      refine ⟨hram, hkeys, hprg, hoffsets, fun hn => ?_, hext⟩
      rw [State.setMapperState_mapper, hm] at hn
      cases hn
  · exact ⟨hram, hkeys, hprg, hoffsets, hnrom, fun he => nomatch hd.symm.trans he⟩

theorem busInvariant_wf : BusInvariant State.wf where
  of_bus h hc hb := by
    simp only [State.parameters, State.busState, Parameters.mk.injEq, BusState.mk.injEq] at hc hb
    obtain ⟨hm, hp, he⟩ := hc
    obtain ⟨hr, hst, hl⟩ := hb
    rwa [State.wf, hm, hp, he, hr, hst, hl]
  read hr h := by
    rcases busRead_ok hr with ⟨-, rfl⟩ | ⟨-, hd, -, rfl⟩
    · exact h
    · obtain ⟨hram, hkeys, hprg, hoffsets, hnrom, -⟩ := h
      exact ⟨hram, hkeys, hprg, hoffsets, hnrom, fun he => nomatch hd.symm.trans he⟩
  write := busWrite_wf

/-- Settles O51: well-formedness is kept by each bus access. -/
theorem stepKeepsWellFormedStates : Obligations.StepKeepsWellFormedStates := fun _ _ h hstep =>
  busInvariant_wf.step hstep h

/-! The configuration. -/

/-- R52, R80, R83: t has the configuration of s, a history that goes on from that of s and, under NROM, the mapper's
state of s. -/
def SameConfiguration (s t : State) : Prop :=
  t.parameters = s.parameters ∧ (s.mapper.isNrom = true → t.mapperState = s.mapperState) ∧
    ∃ l, t.extLog = s.extLog ++ l

theorem SameConfiguration.refl (s : State) : SameConfiguration s s := ⟨rfl, fun _ => rfl, [], (List.append_nil _).symm⟩

theorem SameConfiguration.trans {s t u : State} (h : SameConfiguration s t) (h' : SameConfiguration t u) :
    SameConfiguration s u := by
  obtain ⟨hc, hm, l, hl⟩ := h
  obtain ⟨hc', hm', l', hl'⟩ := h'
  have hmapper : t.mapper = s.mapper := congrArg Parameters.mapper hc
  exact ⟨hc'.trans hc, fun hn => (hm' (hmapper ▸ hn)).trans (hm hn), l ++ l', by rw [hl', hl, List.append_assoc]⟩

theorem sameConfiguration_of_bus {s t : State} (hc : t.parameters = s.parameters) (hb : t.busState = s.busState) :
    SameConfiguration s t :=
  ⟨hc, fun _ => congrArg BusState.mapperState hb, [], (congrArg BusState.extLog hb).trans (List.append_nil _).symm⟩

theorem sameConfiguration_of_busRead {a : Addr} {v : Byte} {s t : State} (h : busRead a s = .ok (v, t)) :
    SameConfiguration s t := by
  rcases busRead_ok h with ⟨-, rfl⟩ | ⟨-, -, -, rfl⟩
  · exact .refl _
  · exact ⟨rfl, fun _ => rfl, [.read a], rfl⟩

theorem sameConfiguration_of_busWrite {a : Addr} {v : Byte} {s t : State} (h : busWrite a v s = .ok t) :
    SameConfiguration s t := by
  rcases busWrite_ok h with ⟨k, -, rfl⟩ | ⟨-, rfl⟩ | ⟨-, -, rfl⟩
  · exact ⟨rfl, fun _ => rfl, [], (List.append_nil _).symm⟩
  · refine ⟨by rw [cartWrite_state]; rfl, fun hn => ?_, [], by rw [cartWrite_state, List.append_nil]; rfl⟩
    obtain ⟨size, hsize⟩ := Mapper.isNrom_iff.mp hn
    rw [cartWrite_nrom hsize]
  · exact ⟨rfl, fun _ => rfl, [.write a v], rfl⟩

theorem busInvariant_sameConfiguration (s : State) : BusInvariant (SameConfiguration s) where
  of_bus h hc hb := h.trans (sameConfiguration_of_bus hc hb)
  read hr h := h.trans (sameConfiguration_of_busRead hr)
  write hw h := h.trans (sameConfiguration_of_busWrite hw)

theorem SameConfiguration.sameCartridge {s t : State} (h : SameConfiguration s t) : SameCartridge s t :=
  ⟨congrArg Parameters.prg h.1, congrArg Parameters.mapper h.1, congrArg Parameters.ext h.1⟩

/-- R79: under NROM the cartridge window reads the PRG buffer and nothing else. -/
theorem SameConfiguration.peek_cart {s t : State} (h : SameConfiguration s t) (hn : s.mapper.isNrom = true) {a : Addr}
    (ha : 0x8000 ≤ a.toNat) : t.peek a = s.peek a := by
  obtain ⟨hprg, hmapper, -⟩ := h.sameCartridge
  obtain ⟨size, hsize⟩ := Mapper.isNrom_iff.mp hn
  rw [peek_inCart t ha, peek_inCart s ha, cartRead_nrom hsize, cartRead_nrom (hmapper.trans hsize), hprg]

/-- R52, R349: the step is stepWith under the state's own configuration. -/
theorem step_eq_stepWith (s : State) : step s = match stepWith s.parameters s.processor s.busState with
    | .next (r, b, o) => .next (State.ofParts s.parameters r b o)
    | .fault f => .fault f
    | .refused q => .refused q := by
  have hstep : step (State.ofParts s.parameters s.processor s.busState { warnings := [], error := none }) = step s := rfl
  rw [stepWith, hstep]
  cases h : step s with
  | next t =>
    have hconfig := (busInvariant_sameConfiguration s).step h (.refl s)
    exact congrArg Host.Outcome.next (State.ofParts_of_parameters hconfig.1).symm
  | fault f => rfl
  | refused q => rfl

/-- Settles O47: every access keeps the configuration, and a step begins with empty outputs. -/
theorem configurationIsNeverWritten : Obligations.ConfigurationIsNeverWritten := by
  refine ⟨fun s t h => ?_, step_eq_stepWith⟩
  have hconfig := (busInvariant_sameConfiguration s).reaches h (.refl s)
  exact ⟨hconfig.sameCartridge, fun hn => ⟨hconfig.2.1 hn, fun a => hconfig.peek_cart hn⟩, hconfig.2.2⟩

end Sys2Proof.Machine
end

section
/-! PROOFS. The stack and the registers of an instruction (R31-R35, R90-R92, R305, R306): the pushes and pops of an
instruction without an operand are all it does to memory, to S and to the warnings, and the other instructions leave
the stack alone. -/

namespace Sys2Proof.Machine

/-! Several pushes and several pops. -/

/-- The bytes of a list pushed in order. -/
def pushAll : List Byte → State → State
  | [], s => s
  | v :: rest, s => pushAll rest (push v s)

/-- The state after n pops. -/
def popMany : Nat → State → State
  | 0, s => s
  | n + 1, s => popMany n (pop s).2

theorem sub_one_sub_ofNat (sp : Byte) (n : Nat) : sp - 1 - BitVec.ofNat 8 n = sp - BitVec.ofNat 8 (n + 1) := by
  rw [BitVec.ofNat_add, BitVec.sub_sub, BitVec.add_comm]
  rfl

theorem add_one_add_ofNat (sp : Byte) (n : Nat) : sp + 1 + BitVec.ofNat 8 n = sp + BitVec.ofNat 8 (n + 1) := by
  rw [BitVec.ofNat_add, BitVec.add_assoc, BitVec.add_comm 1]
  rfl

/-- R90, R305: pushes lower S by their number, report what pushWarnings lists, and leave all but RAM as it was. -/
theorem pushAll_eq (bs : List Byte) (s : State) : pushAll bs s = { s with
    ram := (pushAll bs s).ram
    sp := s.sp - BitVec.ofNat 8 bs.length
    warnings := s.warnings ++ pushWarnings bs.length s.sp } := by
  induction bs generalizing s with
  | nil => simp [pushAll, pushWarnings]
  | cons v rest ih =>
    rw [pushAll, ih, push_eq]
    simp only [List.length_cons, pushWarnings, sub_one_sub_ofNat, List.append_assoc]

/-- R91, R306: pops raise S by their number and report what popWarnings lists. -/
theorem popMany_eq (n : Nat) (s : State) : popMany n s = { s with
    sp := s.sp + BitVec.ofNat 8 n
    warnings := s.warnings ++ popWarnings n s.sp } := by
  induction n generalizing s with
  | zero => simp [popMany, popWarnings]
  | succ n ih =>
    rw [popMany, ih, pop_eq]
    simp only [popWarnings, add_one_add_ofNat, List.append_assoc]

/-- R90: pushes change no byte but the stack bytes they write. -/
theorem peek_pushAll (bs : List Byte) (s : State) {a : Addr}
    (h : ∀ k, k < bs.length → ¬ SameByte (stackAddr (s.sp - BitVec.ofNat 8 k)) a) : (pushAll bs s).peek a = s.peek a := by
  induction bs generalizing s with
  | nil => rfl
  | cons v rest ih =>
    have hfirst : ¬ SameByte (stackAddr s.sp) a := by simpa using h 0 (Nat.zero_lt_succ _)
    have hrest : ∀ k, k < rest.length → ¬ SameByte (stackAddr ((push v s).sp - BitVec.ofNat 8 k)) a := fun k hk => by
      rw [push_sp, sub_one_sub_ofNat]
      exact h (k + 1) (Nat.succ_lt_succ hk)
    rw [pushAll, ih (push v s) hrest, peek_push, peek_ramWrite_other v s (stackAddr_inRam s.sp) hfirst]

/-! The stack. -/

/-- The state after the pushes of the bytes bs and after the pops of an instruction. -/
def stackRun (m : Mnemonic) (bs : List Byte) (s : State) : State := popMany (popCount m) (pushAll bs s)

/-- What an instruction that pushes the bytes bs does to RAM, the mapper, the warnings and S. -/
structure StackEffect (m : Mnemonic) (bs : List Byte) (s t : State) : Prop where
  pushed : bs.length = pushCount m
  ram : t.ram = (stackRun m bs s).ram
  mapperState : t.mapperState = (stackRun m bs s).mapperState
  warnings : t.warnings = (stackRun m bs s).warnings
  sp : m ≠ .TXS → t.sp = (stackRun m bs s).sp

/-- R90, R142: a push neither reads nor writes PC. -/
theorem push_advance (v : Byte) (s : State) (n : Nat) :
    push v (s.advance n) = (push v s).setPc (s.pc + BitVec.ofNat 16 n) := by
  rw [push_eq, push_eq]
  rfl

/-- R250: JMP IND changes PC and at most the history of a supplied device. -/
theorem execJmpInd_state {w : Addr} {s t : State} (h : exec (.jmpInd w) s = .next t) :
    t = (s.setExtLog t.extLog).setPc t.pc := by
  change execJmpInd w s = .next t at h
  unfold execJmpInd at h
  split at h
  · next target u hr =>
    cases h
    rw [readWord_state hr]
    rfl
  · cases h

/-- R278: BRK changes its trap frame's PC and at most the history of a supplied device. -/
theorem execBrk_state {s t : State} (h : exec .brk s = .next t) :
    t = ((trapFrame (s.pc + 2) s).setExtLog t.extLog).setPc t.pc := by
  obtain ⟨w, u, hr, rfl⟩ := takeTrap_ok (execBrk_next h)
  rw [readWord_state hr]
  rfl

namespace StackEffect
variable {m : Mnemonic} {bs : List Byte} {s t : State}

theorem run (h : bs.length = pushCount m) : StackEffect m bs s (stackRun m bs s) := ⟨h, rfl, rfl, rfl, fun _ => rfl⟩

/-! Other fields written after the pushes and pops make no difference to it. -/

theorem setA (h : StackEffect m bs s t) (v : Byte) : StackEffect m bs s (t.setA v) :=
  ⟨h.pushed, h.ram, h.mapperState, h.warnings, h.sp⟩

theorem setP (h : StackEffect m bs s t) (v : Byte) : StackEffect m bs s (t.setP v) :=
  ⟨h.pushed, h.ram, h.mapperState, h.warnings, h.sp⟩

theorem setPc (h : StackEffect m bs s t) (w : Addr) : StackEffect m bs s (t.setPc w) :=
  ⟨h.pushed, h.ram, h.mapperState, h.warnings, h.sp⟩

theorem setExtLog (h : StackEffect m bs s t) (l : List ExtAccess) : StackEffect m bs s (t.setExtLog l) :=
  ⟨h.pushed, h.ram, h.mapperState, h.warnings, h.sp⟩

end StackEffect

/-- The instructions without an operand. -/
theorem exec_noOperand_stack {i : Instr} {s t : State} (hs : i.source = none) (hd : i.dest = none)
    (ht : i.target = none) (h : exec i s = .next t) : ∃ bs, StackEffect i.mnemonic bs s t := by
  cases i
  case tax | tay | txa | tya | tsx | inx | iny | dex | dey => cases h; exact ⟨[], rfl, rfl, rfl, rfl, fun _ => rfl⟩
  case clc | sec | cli | sei | clv | cld | sed | nop | illegal | jmpAbs =>
    cases h; exact ⟨[], rfl, rfl, rfl, rfl, fun _ => rfl⟩
  case txs => cases h; exact ⟨[], rfl, rfl, rfl, rfl, fun hm => absurd rfl hm⟩
  case bcc | bcs | beq | bne | bmi | bpl | bvc | bvs =>
    cases (branch_eq _ _ s).symm.trans h; exact ⟨[], rfl, rfl, rfl, rfl, fun _ => rfl⟩
  case jmpInd w => rw [execJmpInd_state h]; exact ⟨[], rfl, rfl, rfl, rfl, fun _ => rfl⟩
  case pha => cases h; rw [push_advance]; exact ⟨[s.a], (StackEffect.run rfl).setPc _⟩
  case php => cases h; rw [push_advance]; exact ⟨[pushedStatus s.p], (StackEffect.run rfl).setPc _⟩
  case jsr w => cases h; exact ⟨[hiByte (s.pc + 2), loByte (s.pc + 2)], (StackEffect.run rfl).setPc _⟩
  case brk =>
    rw [execBrk_state h]
    exact ⟨[hiByte (s.pc + 2), loByte (s.pc + 2), pushedStatus s.p], (((StackEffect.run rfl).setP _).setExtLog _).setPc _⟩
  case pla =>
    cases (exec_pla s).symm.trans h
    rw [pop_advance]
    exact ⟨[], (((StackEffect.run rfl).setPc _).setA _).setP _⟩
  case plp =>
    cases (exec_plp s).symm.trans h
    rw [pullStatus_advance]
    exact ⟨[], ((StackEffect.run rfl).setPc _).setP _⟩
  case rts => cases (exec_rts s).symm.trans h; exact ⟨[], (StackEffect.run rfl).setPc _⟩
  case rti =>
    cases (exec_rti s).symm.trans h
    rw [returnFromTrap_pops]
    exact ⟨[], ((StackEffect.run rfl).setP _).setPc _⟩
  all_goals cases hs <;> cases hd <;> cases ht

theorem busRead_stack {a : Addr} {s t : State} {v : Byte} (h : busRead a s = .ok (v, t)) :
    t.sp = s.sp ∧ t.warnings = s.warnings :=
  ⟨(congrArg State.sp (busRead_state h)).trans rfl, (congrArg State.warnings (busRead_state h)).trans rfl⟩

theorem busWrite_stack {a : Addr} {s t : State} {v : Byte} (h : busWrite a v s = .ok t) :
    t.sp = s.sp ∧ t.warnings = s.warnings :=
  ⟨(congrArg State.sp (busWrite_state h)).trans rfl, (congrArg State.warnings (busWrite_state h)).trans rfl⟩

theorem readSource_stack {src : Source} {s t : State} {v : Byte} (h : readSource src s = .ok (v, t)) :
    t.sp = s.sp ∧ t.warnings = s.warnings :=
  ⟨(congrArg State.sp (readSource_state h)).trans rfl, (congrArg State.warnings (readSource_state h)).trans rfl⟩

theorem readEffect_stack (m : Mnemonic) (v : Byte) (t : State) :
    (readEffect m v t).sp = t.sp ∧ (readEffect m v t).warnings = t.warnings :=
  ⟨(congrArg State.sp (readEffect_state m v t)).trans rfl, (congrArg State.warnings (readEffect_state m v t)).trans rfl⟩

/-- The instructions with an operand leave S and the warnings alone. -/
theorem exec_operand_stack {i : Instr} {s t : State} (ho : ¬ (i.source = none ∧ i.dest = none ∧ i.target = none))
    (h : exec i s = .next t) : t.sp = s.sp ∧ t.warnings = s.warnings := by
  rcases exec_next h with ⟨src, v, u, -, hr, rfl⟩ | ⟨m, -, hw⟩ | ⟨m, v, u, w, -, hr, hw, rfl⟩ | ⟨-, rfl⟩ | hnone
  · obtain ⟨hsp, hwarnings⟩ := readEffect_stack i.mnemonic v u
    obtain ⟨hsp', hwarnings'⟩ := readSource_stack hr
    exact ⟨hsp.trans hsp', hwarnings.trans hwarnings'⟩
  · obtain ⟨hsp, hwarnings⟩ := busWrite_stack hw
    exact ⟨hsp, hwarnings⟩
  · obtain ⟨hsp, hwarnings⟩ := busWrite_stack hw
    obtain ⟨hsp', hwarnings'⟩ := busRead_stack hr
    exact ⟨hsp.trans hsp', hwarnings.trans hwarnings'⟩
  · exact ⟨rfl, rfl⟩
  · exact absurd hnone ho

/-- The instructions with an operand are none of those that push or pop, nor TXS. -/
theorem stackCounts_of_operand {i : Instr} (ho : ¬ (i.source = none ∧ i.dest = none ∧ i.target = none)) :
    pushCount i.mnemonic = 0 ∧ popCount i.mnemonic = 0 := by
  cases i
  case pha | php | jsr | brk | pla | plp | rts | rti => exact absurd ⟨rfl, rfl, rfl⟩ ho
  all_goals exact ⟨rfl, rfl⟩

/-- No instruction both pushes and pops. -/
theorem pushCount_or_popCount_eq_zero (m : Mnemonic) : pushCount m = 0 ∨ popCount m = 0 := by
  cases m <;> decide

/-- R305, R306: the warnings of an instruction. -/
theorem exec_warnings {i : Instr} {s t : State} (h : exec i s = .next t) : t.warnings =
    s.warnings ++ pushWarnings (pushCount i.mnemonic) s.sp ++ popWarnings (popCount i.mnemonic) s.sp := by
  by_cases hnone : i.source = none ∧ i.dest = none ∧ i.target = none
  · obtain ⟨hs, hd, ht⟩ := hnone
    obtain ⟨bs, hbs⟩ := exec_noOperand_stack hs hd ht h
    rw [hbs.warnings, stackRun, popMany_eq, pushAll_eq, hbs.pushed]
    rcases pushCount_or_popCount_eq_zero i.mnemonic with h0 | h0 <;> simp [h0, popWarnings]
  · obtain ⟨hpush, hpop⟩ := stackCounts_of_operand hnone
    simp [hpush, hpop, pushWarnings, popWarnings, (exec_operand_stack hnone h).2]

/-- R240-R243, R251, R252, R278, R279: S of an instruction. -/
theorem exec_sp {i : Instr} {s t : State} (h : exec i s = .next t) (hm : i.mnemonic ≠ .TXS) :
    t.sp = s.sp - BitVec.ofNat 8 (pushCount i.mnemonic) + BitVec.ofNat 8 (popCount i.mnemonic) := by
  by_cases hnone : i.source = none ∧ i.dest = none ∧ i.target = none
  · obtain ⟨hs, hd, ht⟩ := hnone
    obtain ⟨bs, hbs⟩ := exec_noOperand_stack hs hd ht h
    rw [hbs.sp hm, stackRun, popMany_eq, pushAll_eq, hbs.pushed]
  · obtain ⟨hpush, hpop⟩ := stackCounts_of_operand hnone
    simp [hpush, hpop, (exec_operand_stack hnone h).1]

/-- Settles O46: the warnings of every instruction, and the wrapping push and pop at 0x0100. -/
theorem warningsComeFromStackWraps : Obligations.WarningsComeFromStackWraps := by
  refine ⟨fun i s t => exec_warnings, rfl, rfl, fun v s hsp => ⟨?_, ?_⟩, fun s hsp => ⟨?_, ?_⟩⟩
  · rw [push_sp, hsp]; rfl
  · have hpeek := (pushWritesAndDecrements v s).2.1
    rwa [hsp] at hpeek
  · rw [pop_sp, hsp]; rfl
  · have hpeek := (popIncrementsAndReads s).1
    rwa [hsp] at hpeek

end Sys2Proof.Machine
end

section
/-! PROOFS. The registers an instruction writes (R31-R35), and that a return undoes its call and its trap (R251, R252,
R278, R279). -/

namespace Sys2Proof.Machine

/-! A, X and Y. -/

/-- A, X and Y are as they were. -/
def SameIndexing (s t : State) : Prop := t.a = s.a ∧ t.x = s.x ∧ t.y = s.y

theorem sameIndexing_of_busRead {a : Addr} {s t : State} {v : Byte} (h : busRead a s = .ok (v, t)) : SameIndexing s t := by
  rw [busRead_state h]
  exact ⟨rfl, rfl, rfl⟩

theorem sameIndexing_of_busWrite {a : Addr} {s t : State} {v : Byte} (h : busWrite a v s = .ok t) : SameIndexing s t := by
  obtain ⟨ha, hx, hy, -⟩ := busWrite_registers h
  exact ⟨ha, hx, hy⟩

/-- The instructions without an operand that write none of the three registers. -/
theorem exec_noOperand_sameIndexing {i : Instr} {s t : State} (hs : i.source = none) (hd : i.dest = none)
    (ht : i.target = none) (h : exec i s = .next t)
    (hm : i.mnemonic ∉ [.TAX, .TAY, .TXA, .TYA, .TSX, .INX, .INY, .DEX, .DEY, .PLA]) : SameIndexing s t := by
  cases i
  case tax | tay | txa | tya | tsx | inx | iny | dex | dey | pla => exact absurd (by simp [Instr.mnemonic]) hm
  case txs | clc | sec | cli | sei | clv | cld | sed | nop | illegal | jmpAbs => cases h; exact ⟨rfl, rfl, rfl⟩
  case bcc | bcs | beq | bne | bmi | bpl | bvc | bvs => cases (branch_eq _ _ s).symm.trans h; exact ⟨rfl, rfl, rfl⟩
  case pha | php => cases h; rw [push_eq]; exact ⟨rfl, rfl, rfl⟩
  case plp => cases (exec_plp s).symm.trans h; rw [pullStatus_eq]; exact ⟨rfl, rfl, rfl⟩
  case jsr w => cases h; rw [pushWord_eq]; exact ⟨rfl, rfl, rfl⟩
  case rts => cases (exec_rts s).symm.trans h; rw [popWord_eq]; exact ⟨rfl, rfl, rfl⟩
  case rti =>
    cases (exec_rti s).symm.trans h
    rw [returnFromTrap_eq, popWord_eq, pullStatus_eq]
    exact ⟨rfl, rfl, rfl⟩
  case brk => rw [execBrk_state h, trapFrame, push_eq, pushWord_eq]; exact ⟨rfl, rfl, rfl⟩
  case jmpInd w => rw [execJmpInd_state h]; exact ⟨rfl, rfl, rfl⟩
  all_goals cases hs <;> cases hd <;> cases ht

/-- The registers that an instruction's lists name are the only ones of A, X and Y it writes. -/
def OnlyListedIndexing (i : Instr) (s t : State) : Prop :=
  (writesA i = false → t.a = s.a) ∧ (i.mnemonic ∉ writesX → t.x = s.x) ∧ (i.mnemonic ∉ writesY → t.y = s.y)

theorem SameIndexing.onlyListed {i : Instr} {s t : State} (h : SameIndexing s t) : OnlyListedIndexing i s t := by
  obtain ⟨ha, hx, hy⟩ := h
  exact ⟨fun _ => ha, fun _ => hx, fun _ => hy⟩

/-- The instructions without an operand. -/
theorem exec_noOperand_indexing {i : Instr} {s t : State} (hs : i.source = none) (hd : i.dest = none)
    (ht : i.target = none) (h : exec i s = .next t) : OnlyListedIndexing i s t := by
  by_cases hm : i.mnemonic ∈ [.TAX, .TAY, .TXA, .TYA, .TSX, .INX, .INY, .DEX, .DEY, .PLA]
  · cases i
    case tax | tsx | inx | dex => cases h; exact ⟨fun _ => rfl, (absurd (by decide) ·), fun _ => rfl⟩
    case tay | iny | dey => cases h; exact ⟨fun _ => rfl, fun _ => rfl, (absurd (by decide) ·)⟩
    case txa | tya => cases h; exact ⟨(nomatch ·), fun _ => rfl, fun _ => rfl⟩
    case pla => cases (exec_pla s).symm.trans h; rw [pop_eq]; exact ⟨(nomatch ·), fun _ => rfl, fun _ => rfl⟩
    all_goals exact absurd hm (by simp [Instr.mnemonic])
  · exact (exec_noOperand_sameIndexing hs hd ht h hm).onlyListed

/-- The instructions of class read. -/
theorem readEffect_indexing (m : Mnemonic) (v : Byte) (t : State) :
    (m ∉ [.LDA, .ADC, .SBC, .AND, .ORA, .EOR] → (readEffect m v t).a = t.a) ∧
    (m ≠ .LDX → (readEffect m v t).x = t.x) ∧ (m ≠ .LDY → (readEffect m v t).y = t.y) := by
  cases m
  case LDA | ADC | SBC | AND | ORA | EOR => exact ⟨(absurd (by decide) ·), fun _ => rfl, fun _ => rfl⟩
  case LDX => exact ⟨fun _ => rfl, (absurd rfl ·), fun _ => rfl⟩
  case LDY => exact ⟨fun _ => rfl, fun _ => rfl, (absurd rfl ·)⟩
  all_goals exact ⟨fun _ => rfl, fun _ => rfl, fun _ => rfl⟩

theorem writesA_of_mnemonic {i : Instr} (h : i.mnemonic ∈ [.LDA, .ADC, .SBC, .AND, .ORA, .EOR]) : writesA i = true := by
  simp only [List.mem_cons, List.not_mem_nil, or_false] at h
  rcases h with h | h | h | h | h | h <;> simp only [writesA, h]

/-- R31, R230-R233: the accumulator form of a shift writes A. -/
theorem writesA_of_target_acc {i : Instr} (h : i.target = some .acc) : writesA i = true := by
  cases i
  case aslAcc | lsrAcc | rolAcc | rorAcc => rfl
  all_goals cases h

theorem exec_indexing {i : Instr} {s t : State} (h : exec i s = .next t) : OnlyListedIndexing i s t := by
  rcases exec_next h with ⟨src, v, u, -, hr, rfl⟩ | ⟨m, -, hw⟩ | ⟨m, v, u, w, -, hr, hw, rfl⟩ | ⟨hacc, rfl⟩ | ⟨hs, hd, ht⟩
  · obtain ⟨ha, hx, hy, -⟩ := readSource_advance_registers hr
    obtain ⟨ha', hx', hy'⟩ := readEffect_indexing i.mnemonic v u
    refine ⟨fun hi => (ha' fun hm => ?_).trans ha, fun hi => (hx' fun hm => ?_).trans hx,
      fun hi => (hy' fun hm => ?_).trans hy⟩
    · exact Bool.false_ne_true (hi.symm.trans (writesA_of_mnemonic hm))
    · exact hi (hm ▸ by decide)
    · exact hi (hm ▸ by decide)
  · obtain ⟨ha, hx, hy⟩ := sameIndexing_of_busWrite hw
    exact ⟨fun _ => ha, fun _ => hx, fun _ => hy⟩
  · obtain ⟨ha, hx, hy⟩ := sameIndexing_of_busRead hr
    obtain ⟨ha', hx', hy'⟩ := sameIndexing_of_busWrite hw
    exact ⟨fun _ => ha'.trans ha, fun _ => hx'.trans hx, fun _ => hy'.trans hy⟩
  · exact ⟨fun hi => absurd (hi.symm.trans (writesA_of_target_acc hacc)) Bool.false_ne_true, fun _ => rfl, fun _ => rfl⟩
  · exact exec_noOperand_indexing hs hd ht h

/-- R35: the instructions that do not write S push and pop nothing. -/
theorem stackCounts_of_not_writesS {m : Mnemonic} (h : m ∉ writesS) :
    m ≠ .TXS ∧ pushCount m = 0 ∧ popCount m = 0 := by
  cases m
  case PHA | PHP | PLA | PLP | JSR | RTS | BRK | RTI | TXS => exact absurd (by decide) h
  all_goals exact ⟨by decide, rfl, rfl⟩

/-- Settles O41: A, X and Y by the class of the instruction, S by its pushes and pops. -/
theorem onlyListedRegistersChange : Obligations.OnlyListedRegistersChange := by
  intro i s t h
  obtain ⟨ha, hx, hy⟩ := exec_indexing h
  refine ⟨ha, hx, hy, fun hm => ?_, exec_sp h⟩
  obtain ⟨htxs, hpush, hpop⟩ := stackCounts_of_not_writesS hm
  simpa [hpush, hpop] using exec_sp h htxs

/-! Calls and traps return. -/

/-- R91: popping an address neither reads nor writes PC. -/
theorem popWord_setPc (s : State) (w : Addr) : popWord (s.setPc w) = ((popWord s).1, (popWord s).2.setPc w) := by
  rw [popWord_eq, popWord_eq]
  rfl

/-- R251, R252: RTS right after JSR. -/
theorem exec_rts_after_jsr (w : Addr) (s : State) :
    ∃ u, exec .rts ((pushWord (s.pc + 2) s).setPc w) = .next u ∧
      u.pc = s.pc + 3 ∧ u.sp = s.sp ∧ u.a = s.a ∧ u.x = s.x ∧ u.y = s.y ∧ u.p = s.p := by
  refine ⟨_, exec_rts _, ?_, ?_, ?_⟩
  · rw [popWord_setPc, popWord_word_pushWord, State.setPc_pc, BitVec.add_assoc]
    rfl
  · rw [popWord_setPc, State.setPc_sp, State.setPc_sp, popWord_sp_pushWord]
  · rw [popWord_eq, pushWord_eq]
    exact ⟨rfl, rfl, rfl, rfl⟩

/-- R39, R278, R279: the copy of P that BRK pushes gives P back, I among it. -/
theorem pulledStatus_pushedStatus (p : Byte) : pulledStatus (pushedStatus p) (setFlag .i true p) = p := by
  refine status_ext fun f => ?_
  rw [flag_pulledStatus, flag_pushedStatus]
  by_cases h : f = .u ∨ f = .b
  · have hi : f ≠ .i := by rcases h with rfl | rfl <;> decide
    rw [if_pos h, flag_setFlag_other hi]
  · rw [if_neg h, decide_eq_false h, Bool.or_false]

/-- R278: RAM under a trap frame, the three bytes from S downwards. -/
theorem trapFrame_ram (ret : Addr) (s : State) : (trapFrame ret s).ram =
    ((s.ram.write (stackIndex s.sp) (hiByte ret)).write (stackIndex (s.sp - 1)) (loByte ret)).write
      (stackIndex (s.sp - 1 - 1)) (pushedStatus s.p) := by
  rw [trapFrame, push_eq, pushWord_eq]
  rfl

theorem trapFrame_sp (ret : Addr) (s : State) : (trapFrame ret s).sp = s.sp - 1 - 1 - 1 := by
  rw [trapFrame, push_eq, pushWord_eq]
  rfl

/-- R278, R279: three pops after a trap give what it pushed, last byte first. -/
theorem pops_after_trapFrame {s t : State} {ret : Addr} (hram : t.ram = (trapFrame ret s).ram)
    (hsp : t.sp = (trapFrame ret s).sp) :
    (pop t).1 = pushedStatus s.p ∧ (pop (pop t).2).1 = loByte ret ∧ (pop (pop (pop t).2).2).1 = hiByte ret ∧
      (pop (pop (pop t).2).2).2.sp = s.sp := by
  have h01 : stackIndex s.sp ≠ stackIndex (s.sp - 1) := by rw [Ne, stackIndex_inj]; bv_omega
  have h02 : stackIndex s.sp ≠ stackIndex (s.sp - 1 - 1) := by rw [Ne, stackIndex_inj]; bv_omega
  have h12 : stackIndex (s.sp - 1) ≠ stackIndex (s.sp - 1 - 1) := by rw [Ne, stackIndex_inj]; bv_omega
  simp only [pop_byte, pop_ram, pop_sp, hram, hsp, trapFrame_ram, trapFrame_sp, BitVec.sub_add_cancel]
  refine ⟨Memory.read_write_same _ _ _, ?_, ?_, trivial⟩
  · rw [Memory.read_write_other _ _ h12, Memory.read_write_same]
  · rw [Memory.read_write_other _ _ h02, Memory.read_write_other _ _ h01, Memory.read_write_same]

/-- R278, R279: RTI right after a BRK that completed. -/
theorem exec_rti_after_brk {s t : State} (h : exec .brk s = .next t) : ∃ u, exec .rti t = .next u ∧
    u.pc = s.pc + 2 ∧ u.sp = s.sp ∧ u.a = s.a ∧ u.x = s.x ∧ u.y = s.y ∧ u.p = s.p := by
  have ht := execBrk_state h
  obtain ⟨hstatus, hlo, hhi, hsp⟩ := pops_after_trapFrame (s := s) (t := t) (ret := s.pc + 2)
    (by rw [ht]; rfl) (by rw [ht]; rfl)
  obtain ⟨ha, hx, hy⟩ := exec_noOperand_sameIndexing rfl rfl rfl h (by decide)
  refine ⟨_, exec_rti t, ?_⟩
  obtain ⟨ha', hx', hy'⟩ := exec_noOperand_sameIndexing rfl rfl rfl (exec_rti t) (by decide)
  refine ⟨?_, ?_, ha'.trans ha, hx'.trans hx, hy'.trans hy, ?_⟩ <;> rw [returnFromTrap_pops]
  · rw [State.setPc_pc, hlo, hhi, word_hiByte_loByte]
  · rw [State.setPc_sp, State.setP_sp, hsp]
  · rw [State.setPc_p, State.setP_p, hstatus, takeTrap_p (execBrk_next h), pulledStatus_pushedStatus]

/-- Settles O39: what was pushed is popped, and neither the pushes nor the pops write A, X or Y. -/
theorem callsAndTrapsReturn : Obligations.CallsAndTrapsReturn := by
  refine ⟨fun w s => ?_, fun s t => exec_rti_after_brk⟩
  obtain ⟨u, hu, hregisters⟩ := exec_rts_after_jsr w s
  exact ⟨_, u, rfl, hu, hregisters⟩

end Sys2Proof.Machine
end

section
/-! PROOFS. What an instruction changes in memory (R80-R83, R160): nothing but the byte at its effective address, the
stack bytes it pushes and, outside the block, the state of the unit its access reaches. -/

namespace Sys2Proof.Machine

/-! The bytes behind the bus. -/

/-- RAM, PRG, the mapper and its state are as they were, so every byte reads the same. -/
def SameMemory (s t : State) : Prop :=
  t.ram = s.ram ∧ t.prg = s.prg ∧ t.mapper = s.mapper ∧ t.mapperState = s.mapperState

theorem SameMemory.trans {s t u : State} (h : SameMemory s t) (h' : SameMemory t u) : SameMemory s u := by
  obtain ⟨hram, hprg, hmapper, hstate⟩ := h
  obtain ⟨hram', hprg', hmapper', hstate'⟩ := h'
  exact ⟨hram'.trans hram, hprg'.trans hprg, hmapper'.trans hmapper, hstate'.trans hstate⟩

theorem SameMemory.peek {s t : State} (h : SameMemory s t) (a : Addr) : t.peek a = s.peek a := by
  obtain ⟨hram, hprg, hmapper, hstate⟩ := h
  exact peek_of_fields hram hprg hmapper hstate a

/-- R88: a read changes no byte. -/
theorem sameMemory_of_busRead {a : Addr} {s t : State} {v : Byte} (h : busRead a s = .ok (v, t)) : SameMemory s t := by
  rw [busRead_state h]
  exact ⟨rfl, rfl, rfl, rfl⟩

theorem sameMemory_of_readSource {src : Source} {s t : State} {v : Byte} (h : readSource src s = .ok (v, t)) :
    SameMemory s t := by
  rw [readSource_state h]
  exact ⟨rfl, rfl, rfl, rfl⟩

/-- What writing v at a makes of the memory of s: one RAM byte, nothing, or the mapper's next state. -/
def Stored (a : Addr) (v : Byte) (s t : State) : Prop :=
  (a.toNat < 0x2000 → SameMemory (s.setRam (s.ram.write (a.toNat % 0x800) v)) t) ∧
  (unmapped a → SameMemory s t) ∧
  (0x8000 ≤ a.toNat → SameMemory (s.cartWrite a v) t)

/-- R72: a bus write, region by region. -/
theorem stored_of_busWrite {a : Addr} {v : Byte} {s t : State} (h : busWrite a v s = .ok t) : Stored a v s t := by
  refine ⟨fun ha => ?_, fun ha => ?_, fun ha => ?_⟩
  · cases (busWrite_inRam v s ha).symm.trans h
    exact ⟨rfl, rfl, rfl, rfl⟩
  · rcases busWrite_ok h with ⟨k, hk, -⟩ | ⟨hk, -⟩ | ⟨-, -, rfl⟩
    · cases (region_ext ha.1 ha.2).symm.trans hk
    · cases (region_ext ha.1 ha.2).symm.trans hk
    · exact ⟨rfl, rfl, rfl, rfl⟩
  · cases (busWrite_inCart v s ha).symm.trans h
    exact ⟨rfl, rfl, rfl, rfl⟩

/-- The memory of a write depends on the memory before it alone. -/
theorem Stored.of_sameMemory {a : Addr} {v : Byte} {s u t : State} (hu : SameMemory s u) (h : Stored a v u t) :
    Stored a v s t := by
  obtain ⟨hram, hprg, hmapper, hstate⟩ := hu
  obtain ⟨hinRam, hinExt, hinCart⟩ := h
  refine ⟨fun ha => ?_, fun ha => ?_, fun ha => ?_⟩
  · have hwritten : SameMemory (s.setRam (s.ram.write (a.toNat % 0x800) v)) (u.setRam (u.ram.write (a.toNat % 0x800) v)) :=
      ⟨congrArg (Memory.write · _ v) hram, hprg, hmapper, hstate⟩
    exact hwritten.trans (hinRam ha)
  · have hsame : SameMemory s u := ⟨hram, hprg, hmapper, hstate⟩
    exact hsame.trans (hinExt ha)
  · have hwritten : SameMemory (s.cartWrite a v) (u.cartWrite a v) := by
      cases hm : s.mapper with
      | nrom size =>
        rw [cartWrite_nrom hm, cartWrite_nrom (hmapper.trans hm)]
        exact ⟨hram, hprg, hmapper, hstate⟩
      | translated id len tr =>
        rw [cartWrite_translated hm, cartWrite_translated (hmapper.trans hm), hprg, hstate]
        exact ⟨hram, hprg, hmapper, rfl⟩
    exact hwritten.trans (hinCart ha)

/-! Stores and read-modify-writes. -/

/-- R160: the one write of an instruction with a destination or a memory target; a store writes its register. -/
theorem exec_stored {i : Instr} {m : Addressed} {s t : State} (h : exec i s = .next t)
    (hm : i.dest = some m ∨ i.target = some (.mem m)) : ∃ v, Stored (effAddr m s) v s t ∧
      (i.mnemonic = .STA → v = s.a) ∧ (i.mnemonic = .STX → v = s.x) ∧ (i.mnemonic = .STY → v = s.y) := by
  rcases hm with hd | ht
  · obtain ⟨hexec, -, -⟩ := exec_dest hd s
    have hadvance : SameMemory s (s.advance (addressedLength m)) := ⟨rfl, rfl, rfl, rfl⟩
    exact ⟨storedByte i.mnemonic s, (stored_of_busWrite (storeAt_next (hexec.symm.trans h))).of_sameMemory hadvance,
      fun hi => hi ▸ rfl, fun hi => hi ▸ rfl, fun hi => hi ▸ rfl⟩
  · obtain ⟨hexec, -, hlist⟩ := exec_target ht s
    obtain ⟨v, u, w, hr, hw, rfl⟩ := modifyAt_next (hexec.symm.trans h)
    have hread : SameMemory s u := sameMemory_of_busRead (s := s.advance (addressedLength m)) hr
    refine ⟨_, (stored_of_busWrite hw).of_sameMemory hread, fun hi => ?_, fun hi => ?_, fun hi => ?_⟩ <;>
      simp [hi] at hlist

section
variable {a : Addr} {v : Byte} {s t : State} (h : Stored a v s t)
include h

/-- R80, R83: a write outside RAM that reaches no translated mapper changes no byte. -/
theorem Stored.sameMemory (ha : 0x2000 ≤ a.toNat) (hm : s.mapper.isNrom = true ∨ a.toNat < 0x8000) : SameMemory s t := by
  obtain ⟨-, hinExt, hinCart⟩ := h
  by_cases hcart : 0x8000 ≤ a.toNat
  · obtain ⟨size, hsize⟩ := Mapper.isNrom_iff.mp (hm.resolve_right (Nat.not_lt.mpr hcart))
    have hsame := hinCart hcart
    rwa [cartWrite_nrom hsize] at hsame
  · exact hinExt ⟨ha, Nat.lt_of_not_le hcart⟩

/-- R80: a write that reaches no translated mapper changes no byte but its own. -/
theorem Stored.peek_other (hm : s.mapper.isNrom = true ∨ a.toNat < 0x8000) {b : Addr} (hb : ¬ SameByte a b) :
    t.peek b = s.peek b := by
  by_cases hram : a.toNat < 0x2000
  · rw [(h.1 hram).peek, peek_ramWrite_other v s hram hb]
  · exact (h.sameMemory (Nat.le_of_not_lt hram) hm).peek b

/-- R80, R81: a write outside RAM leaves RAM as it was. -/
theorem Stored.ram (ha : 0x2000 ≤ a.toNat) : t.ram = s.ram := by
  obtain ⟨-, hinExt, hinCart⟩ := h
  by_cases hcart : 0x8000 ≤ a.toNat
  · obtain ⟨hram, -⟩ := hinCart hcart
    rw [hram, cartWrite_state]
    rfl
  · exact (hinExt ⟨ha, Nat.lt_of_not_le hcart⟩).1

/-- R81: only a write of a translated mapper's window changes the mapper's state. -/
theorem Stored.mapperState (hm : s.mapper.isNrom = true ∨ a.toNat < 0x8000) : t.mapperState = s.mapperState := by
  by_cases hram : a.toNat < 0x2000
  · exact (h.1 hram).2.2.2
  · exact (h.sameMemory (Nat.le_of_not_lt hram) hm).2.2.2

/-- R81: a translated mapper takes the state its write function gives. -/
theorem Stored.mapperState_translated {id : Byte} {len : Nat} {tr : MapperTranslate} (hm : s.mapper = .translated id len tr)
    (ha : 0x8000 ≤ a.toNat) : t.mapperState = tr.writeState s.prg len s.mapperState a v := by
  obtain ⟨-, -, -, hstate⟩ := h.2.2 ha
  rw [hstate, cartWrite_translated hm]
  rfl

/-- R80: a byte written to RAM is read back. -/
theorem Stored.peek_same (ha : a.toNat < 0x2000) : t.peek a = some v := by
  rw [(h.1 ha).peek, peek_ramWrite_same v s ha]

end

/-- Settles O44: the memory after the one write, region by region. -/
theorem storesTouchOnlyTheirByte : Obligations.StoresTouchOnlyTheirByte := by
  intro i m s t h hm
  obtain ⟨v, hstored, ha, hx, hy⟩ := exec_stored h hm
  refine ⟨fun hmap b hb => hstored.peek_other hmap hb, hstored.ram,
    fun hnrom hout b => (hstored.sameMemory hout (.inl hnrom)).peek b, hstored.mapperState,
    fun id len tr htr hcart => ⟨v, hstored.mapperState_translated htr hcart, ha, hx, hy⟩, fun hram => ?_⟩
  rw [hstored.peek_same hram]
  exact ⟨fun hi => congrArg some (ha hi), fun hi => congrArg some (hx hi), fun hi => congrArg some (hy hi)⟩

/-! Pushes, and instructions that write nothing. -/

/-- R52: no instruction changes PRG or the mapper. -/
theorem exec_sameCartridge {i : Instr} {s t : State} (h : exec i s = .next t) : SameCartridge s t :=
  ((busInvariant_sameConfiguration s).exec h (.refl s)).sameCartridge

/-- R90-R92: after an instruction without an operand the memory is the one its pushes leave. -/
theorem StackEffect.sameMemory {m : Mnemonic} {bs : List Byte} {s t : State} (h : StackEffect m bs s t)
    (hc : SameCartridge s t) : SameMemory (pushAll bs s) t := by
  obtain ⟨hprg, hmapper, -⟩ := hc
  have hpops : SameMemory (pushAll bs s) (stackRun m bs s) := by
    rw [stackRun, popMany_eq]
    exact ⟨rfl, rfl, rfl, rfl⟩
  have hpushes := pushAll_eq bs s
  obtain ⟨hram, -, -, hstate⟩ := hpops
  exact ⟨h.ram.trans hram, by rw [hprg, hpushes], by rw [hmapper, hpushes], h.mapperState.trans hstate⟩

/-- Settles O43: reads change no memory, and an instruction that pushes no byte has the memory of no push. -/
theorem nonStoringInstructionsKeepMemory : Obligations.NonStoringInstructionsKeepMemory := by
  intro i s t h hdest htarget hpush
  have hsame : SameMemory s t := by
    rcases exec_next h with ⟨src, v, u, -, hr, rfl⟩ | ⟨m, hd, -⟩ | ⟨m, v, u, w, ht, -⟩ | ⟨-, rfl⟩ | ⟨hs, hd, ht⟩
    · have hread : SameMemory s u := sameMemory_of_readSource (s := s.advance i.length) hr
      rw [readEffect_state]
      exact hread
    · cases hdest.symm.trans hd
    · exact absurd ht (htarget m)
    · exact ⟨rfl, rfl, rfl, rfl⟩
    · obtain ⟨bs, hbs⟩ := exec_noOperand_stack hs hd ht h
      obtain rfl : bs = [] := List.eq_nil_of_length_eq_zero (hbs.pushed.trans hpush)
      exact hbs.sameMemory (exec_sameCartridge h)
  exact ⟨hsame.1, hsame.2.2.2, hsame.peek⟩

/-- Settles O45: an instruction that pushes has no operand, and its pushes write the stack bytes from S downwards. -/
theorem pushesTouchOnlyTheirStackBytes : Obligations.PushesTouchOnlyTheirStackBytes := by
  intro i s t b h hpush hother
  by_cases hnone : i.source = none ∧ i.dest = none ∧ i.target = none
  · obtain ⟨hs, hd, ht⟩ := hnone
    obtain ⟨bs, hbs⟩ := exec_noOperand_stack hs hd ht h
    rw [(hbs.sameMemory (exec_sameCartridge h)).peek]
    exact peek_pushAll bs s fun k hk => hother k (hbs.pushed ▸ hk)
  · exact absurd (stackCounts_of_operand hnone).1 (Nat.ne_of_gt hpush)

/-! The accesses of a supplied device. -/

section
variable {i : Instr} {m : Addressed} {s : State} (hd : s.ext = .device) (ha : unmapped (effAddr m s))
include hd ha

/-- R83: what a device at the effective address answers to the one read of an instruction. -/
theorem busRead_operand_device {v : Byte} (hv : Config.extRead s.extLog (effAddr m s) = some v) :
    busRead (effAddr m s) (s.advance i.length) =
      .ok (v, (s.advance i.length).setExtLog (s.extLog ++ [.read (effAddr m s)])) :=
  busRead_device (s := s.advance i.length) ha hd hv

theorem busRead_operand_device_error (hv : Config.extRead s.extLog (effAddr m s) = none) :
    busRead (effAddr m s) (s.advance i.length) = .error (.invalidBusAddress (effAddr m s) .read s.warnings) :=
  busRead_device_error (s := s.advance i.length) ha hd hv

/-- R83, R160: an instruction of class read makes one read of the device. -/
theorem exec_read_device (hs : i.source = some (.mem m)) : match Config.extRead s.extLog (effAddr m s) with
    | some _ => ∃ t, exec i s = .next t ∧ t.extLog = s.extLog ++ [.read (effAddr m s)]
    | none => exec i s = .fault (.invalidBusAddress (effAddr m s) .read s.warnings) := by
  cases hv : Config.extRead s.extLog (effAddr m s) with
  | none => exact exec_of_read_error hs (busRead_operand_device_error hd ha hv)
  | some v =>
    refine ⟨_, exec_of_read (src := .mem m) hs (busRead_operand_device hd ha hv), ?_⟩
    rw [readEffect_state]
    rfl

/-- R83, R160: an instruction of class write makes one write of its register to the device. -/
theorem exec_write_device (hdest : i.dest = some m) :
    if Config.extTakes s.extLog (effAddr m s) (storedByte i.mnemonic s)
    then ∃ t, exec i s = .next t ∧ t.extLog = s.extLog ++ [.write (effAddr m s) (storedByte i.mnemonic s)]
    else exec i s = .fault (.invalidBusAddress (effAddr m s) .write s.warnings) := by
  rw [exec_of_dest hdest, busWrite_device (s := s.advance i.length) _ ha hd, State.advance_extLog]
  split
  · exact ⟨_, rfl, rfl⟩
  · rfl

/-- R83, R160: a read-modify-write makes one read of the device and then one write of its result. -/
theorem exec_modify_device (ht : i.target = some (.mem m)) : match Config.extRead s.extLog (effAddr m s) with
    | some _ => ∃ v, if Config.extTakes (s.extLog ++ [.read (effAddr m s)]) (effAddr m s) v
      then ∃ t, exec i s = .next t ∧ t.extLog = s.extLog ++ [.read (effAddr m s), .write (effAddr m s) v]
      else exec i s = .fault (.invalidBusAddress (effAddr m s) .write s.warnings)
    | none => exec i s = .fault (.invalidBusAddress (effAddr m s) .read s.warnings) := by
  cases hv : Config.extRead s.extLog (effAddr m s) with
  | none => exact exec_of_modify_read_error ht (busRead_operand_device_error hd ha hv)
  | some v =>
    refine ⟨(modifyOp i.mnemonic v s.p).result, ?_⟩
    rw [exec_of_modify_read ht (busRead_operand_device hd ha hv),
      busWrite_device (s := (s.advance i.length).setExtLog _) _ ha hd, State.setExtLog_extLog]
    split
    · exact ⟨_, rfl, List.append_assoc _ _ _⟩
    · rfl

end

/-- Settles O22: each class makes its accesses of the device at the effective address and no other. -/
theorem eachOperandIsAccessedOnce : Obligations.EachOperandIsAccessedOnce := fun i _ s hd ha =>
  ⟨exec_read_device hd ha, fun hdest => ⟨storedByte i.mnemonic s, fun hm => hm ▸ rfl, fun hm => hm ▸ rfl,
    fun hm => hm ▸ rfl, exec_write_device hd ha hdest⟩, exec_modify_device hd ha⟩

end Sys2Proof.Machine
end

section
/-! PROOFS. Where an instruction, a fetch and a step stop (R76, R141, R304): at the first access that nothing answers,
and, with the default EXT_REGION beside a mapper that answers its whole window, only at an address of 0x2000-0x7FFF.
-/

namespace Sys2Proof.Machine

/-! The fetch. -/

/-- With nothing supplied at 0x2000-0x7FFF, a read fails there with InvalidBusAddress and has no effect elsewhere. -/
theorem busRead_plainMap {s : State} (hs : s.plainMap) (a : Addr) :
    (unmapped a ∧ busRead a s = .error (s.invalid a .read)) ∨ (¬ unmapped a ∧ ∃ v, busRead a s = .ok (v, s)) := by
  by_cases ha : unmapped a
  · exact .inl ⟨ha, busRead_unmapped ha hs.2⟩
  · refine .inr ⟨ha, ?_⟩
    cases hr : busRead a s with
    | error f => exact absurd (((invalidBusAddressExactlyWhereUnmapped a s hs).1 f).mp hr).1 ha
    | ok r =>
      rcases busRead_ok hr with ⟨-, ht⟩ | ⟨-, hd, -⟩
      · exact ⟨r.1, by rw [← ht]⟩
      · cases hs.2.symm.trans hd

theorem busWrite_plainMap {s : State} (hs : s.plainMap) {a : Addr} (ha : ¬ unmapped a) (v : Byte) :
    ∃ t, busWrite a v s = .ok t := by
  cases hw : busWrite a v s with
  | error f => exact absurd (((invalidBusAddressExactlyWhereUnmapped a s hs).2 v f).mp hw).1 ha
  | ok t => exact ⟨t, rfl⟩

/-- R140: a fetched instruction is an entry of the map. -/
theorem fetch_instrOf {s t : State} {i : Instr} (h : fetch s = .ok (i, t)) : ∃ op b1 b2, i = instrOf op b1 b2 := by
  unfold fetch at h
  split at h
  · cases h
  · next op u _ =>
    split at h
    · cases h; exact ⟨op, 0, 0, rfl⟩
    · split at h
      · cases h
      · next b1 _ _ => cases h; exact ⟨op, b1, 0, rfl⟩
    · split at h
      · cases h
      · next b1 _ _ =>
        split at h
        · cases h
        · next b2 _ _ => cases h; exact ⟨op, b1, b2, rfl⟩

/-- R141: with nothing supplied at 0x2000-0x7FFF, a fetch has no effect, and fails only at one of three addresses. -/
theorem fetch_plainMap {s : State} (hs : s.plainMap) : (∃ i, fetch s = .ok (i, s)) ∨
    ∃ a, (a = s.pc ∨ a = s.pc + 1 ∨ a = s.pc + 2) ∧ unmapped a ∧ fetch s = .error (s.invalid a .read) := by
  rcases busRead_plainMap hs s.pc with ⟨h0, e0⟩ | ⟨-, op, e0⟩
  · exact .inr ⟨_, .inl rfl, h0, by simp only [fetch, e0]⟩
  rcases operandCount_cases op with hn | hn | hn
  · exact .inl ⟨instrOf op 0 0, by simp only [fetch, e0, hn]⟩
  all_goals rcases busRead_plainMap hs (s.pc + 1) with ⟨h1, e1⟩ | ⟨-, b1, e1⟩
  · exact .inr ⟨_, .inr (.inl rfl), h1, by simp only [fetch, e0, hn, e1]⟩
  · exact .inl ⟨instrOf op b1 0, by simp only [fetch, e0, hn, e1]⟩
  · exact .inr ⟨_, .inr (.inl rfl), h1, by simp only [fetch, e0, hn, e1]⟩
  · rcases busRead_plainMap hs (s.pc + 2) with ⟨h2, e2⟩ | ⟨-, b2, e2⟩
    · exact .inr ⟨_, .inr (.inr rfl), h2, by simp only [fetch, e0, hn, e1, e2]⟩
    · exact .inl ⟨instrOf op b1 b2, by simp only [fetch, e0, hn, e1, e2]⟩

/-- Settles O50: the fetch by the number of operand bytes, each read by its outcome. -/
theorem fetchReadsOpcodeThenOperands : Obligations.FetchReadsOpcodeThenOperands := by
  intro s
  refine ⟨fun f e0 => ?_, fun op t e0 hn => ?_, fun op t f e0 hn e1 => ?_, fun op t b1 u e0 hn e1 => ?_,
    fun op t b1 u f e0 hn e1 e2 => ?_, fun op t b1 u b2 w e0 hn e1 e2 => ?_, fun i t h => ⟨?_, fetch_state h⟩,
    fun hs h0 h1 h2 => ?_⟩
  · simp only [fetch, e0]
  · simp only [fetch, e0, hn]
  · rcases operandCount_cases op with hn' | hn' | hn'
    · omega
    · simp only [fetch, e0, hn', e1]
    · simp only [fetch, e0, hn', e1]
  · simp only [fetch, e0, hn, e1]
  · simp only [fetch, e0, hn, e1, e2]
  · simp only [fetch, e0, hn, e1, e2]
  · obtain ⟨op, b1, b2, rfl⟩ := fetch_instrOf h
    exact instrOf_wf op b1 b2
  · rcases fetch_plainMap hs with h | ⟨a, ha, hun, -⟩
    · exact h
    · rcases ha with rfl | rfl | rfl
      · exact absurd hun h0
      · exact absurd hun h1
      · exact absurd hun h2

/-! The first unmapped access. -/

/-- A result that is a next state where no access of a list is unmapped, and else the fault of the first that is. -/
def StopsAtFirst (accs : List (Addr × AccessKind)) (warnings : List Warning) (r : Result) : Prop :=
  ((∀ x ∈ accs, ¬ unmapped x.1) → ∃ t, r = .next t) ∧
  ∀ pre a k post, accs = pre ++ (a, k) :: post → (∀ x ∈ pre, ¬ unmapped x.1) → unmapped a →
    r = .fault (.invalidBusAddress a k warnings)

theorem StopsAtFirst.nil {warnings : List Warning} {r : Result} (h : ∃ t, r = .next t) : StopsAtFirst [] warnings r :=
  ⟨fun _ => h, fun pre _ _ _ e => by cases pre <;> cases e⟩

theorem StopsAtFirst.cons {a : Addr} {k : AccessKind} {accs : List (Addr × AccessKind)} {warnings : List Warning}
    {r : Result} (hfault : unmapped a → r = .fault (.invalidBusAddress a k warnings))
    (hrest : ¬ unmapped a → StopsAtFirst accs warnings r) : StopsAtFirst ((a, k) :: accs) warnings r := by
  refine ⟨fun h => ?_, fun pre b j post e hpre hb => ?_⟩
  · obtain ⟨ha, haccs⟩ := List.forall_mem_cons.mp h
    exact (hrest ha).1 haccs
  · cases pre with
    | nil => cases e; exact hfault hb
    | cons x pre =>
      cases e
      obtain ⟨ha, hpre⟩ := List.forall_mem_cons.mp hpre
      exact (hrest ha).2 pre b j post rfl hpre hb

/-- Such a result is a next state or a fault at an unmapped address. -/
theorem StopsAtFirst.next_or_fault {accs : List (Addr × AccessKind)} {warnings : List Warning} {r : Result}
    (h : StopsAtFirst accs warnings r) :
    (∃ t, r = .next t) ∨ ∃ a k l, r = .fault (.invalidBusAddress a k l) ∧ unmapped a := by
  cases hfind : accs.find? fun x => decide (unmapped x.1) with
  | none =>
    refine .inl (h.1 fun x hx hun => ?_)
    exact List.find?_eq_none.mp hfind x hx (decide_eq_true hun)
  | some x =>
    obtain ⟨hun, pre, post, e, hpre⟩ := List.find?_eq_some_iff_append.mp hfind
    have hfirst : unmapped x.1 := of_decide_eq_true hun
    have hbefore : ∀ y ∈ pre, ¬ unmapped y.1 := fun y hy => of_decide_eq_false (Bool.not_eq_true' _ ▸ hpre y hy)
    exact .inr ⟨_, _, _, h.2 pre x.1 x.2 post e hbefore hfirst, hfirst⟩

/-- Of the instructions without an operand only JMP IND and BRK read memory outside RAM; every other one completes. -/
theorem exec_noOperand_completes {i : Instr} (hsrc : i.source = none) (hdest : i.dest = none) (ht : i.target = none)
    (h : targetReads i = []) (s : State) : ∃ t, exec i s = .next t := by
  cases i
  case jmpInd | brk => cases h
  case tax | tay | txa | tya | tsx | txs | inx | iny | dex | dey => exact ⟨_, rfl⟩
  case pha | php | pla | plp | jsr | rts | rti | jmpAbs => exact ⟨_, rfl⟩
  case clc | sec | cli | sei | clv | cld | sed | nop | illegal => exact ⟨_, rfl⟩
  case bcc | bcs | beq | bne | bmi | bpl | bvc | bvs => exact ⟨_, branch_eq _ _ s⟩
  all_goals cases hsrc <;> cases hdest <;> cases ht

section
variable {i : Instr} {s : State} (hs : s.plainMap)
include hs

/-- R76: the fault of an access of the instruction's operand at an unmapped address. -/
theorem busRead_operand_unmapped {a : Addr} (ha : unmapped a) :
    busRead a (s.advance i.length) = .error (.invalidBusAddress a .read s.warnings) :=
  busRead_unmapped (s := s.advance i.length) ha hs.2

/-- The instructions of class read. -/
theorem exec_source_stops {m : Addressed} (hsrc : i.source = some (.mem m)) :
    StopsAtFirst [(effAddr m s, .read)] s.warnings (exec i s) := by
  refine .cons (fun ha => exec_of_read_error hsrc (busRead_operand_unmapped hs ha)) fun ha => .nil ?_
  obtain ⟨hun, -⟩ | ⟨-, v, hr⟩ := busRead_plainMap (s := s.advance i.length) hs (effAddr m s)
  · exact absurd hun ha
  · exact ⟨_, exec_of_read (src := .mem m) hsrc hr⟩

/-- The instructions of class write. -/
theorem exec_dest_stops {m : Addressed} (hdest : i.dest = some m) :
    StopsAtFirst [(effAddr m s, .write)] s.warnings (exec i s) := by
  rw [exec_of_dest hdest]
  refine .cons (fun ha => ?_) fun ha => .nil ?_
  · rw [busWrite_unmapped (s := s.advance i.length) _ ha hs.2]
    rfl
  · obtain ⟨t, hw⟩ := busWrite_plainMap (s := s.advance i.length) hs ha (storedByte i.mnemonic s)
    exact ⟨t, by rw [hw]; rfl⟩

/-- The read-modify-writes in memory. -/
theorem exec_target_stops {m : Addressed} (ht : i.target = some (.mem m)) :
    StopsAtFirst [(effAddr m s, .read), (effAddr m s, .write)] s.warnings (exec i s) := by
  refine .cons (fun ha => exec_of_modify_read_error ht (busRead_operand_unmapped hs ha)) fun ha =>
    .cons (fun ha' => absurd ha' ha) fun _ => .nil ?_
  obtain ⟨hun, -⟩ | ⟨-, v, hr⟩ := busRead_plainMap (s := s.advance i.length) hs (effAddr m s)
  · exact absurd hun ha
  · obtain ⟨t, hw⟩ := busWrite_plainMap (s := s.advance i.length) hs ha (modifyOp i.mnemonic v s.p).result
    exact ⟨_, by rw [exec_of_modify_read ht hr, hw]; rfl⟩

/-- R250, R155: JMP IND reads its pointer's two bytes. -/
theorem exec_jmpInd_stops (w : Addr) :
    StopsAtFirst [(w, .read), (pageNext w, .read)] s.warnings (exec (.jmpInd w) s) := by
  have hs' : (s.advance 3).plainMap := hs
  refine .cons (fun ha => exec_jmpInd_read_error (busRead_unmapped ha hs'.2)) fun ha => ?_
  obtain ⟨hun, -⟩ | ⟨-, lo, hlo⟩ := busRead_plainMap hs' w
  · exact absurd hun ha
  rw [exec_jmpInd_read hlo]
  refine .cons (fun ha' => by rw [busRead_unmapped ha' hs'.2]; rfl) fun ha' => .nil ?_
  obtain ⟨hun, -⟩ | ⟨-, hi, hhi⟩ := busRead_plainMap hs' (pageNext w)
  · exact absurd hun ha'
  · exact ⟨_, by rw [hhi]; rfl⟩

/-- R278, R89: a mapper that answers its whole window answers BRK's vector. -/
theorem exec_brk_completes : ∃ t, exec .brk s = .next t := by
  obtain ⟨lo, hlo⟩ := cartRead_of_mapsVectors hs.1 0xFFFE
  obtain ⟨hi, hhi⟩ := cartRead_of_mapsVectors hs.1 0xFFFF
  exact ⟨_, exec_brk_of_vector ((peek_inCart s (by decide)).trans hlo) ((peek_inCart s (by decide)).trans hhi)⟩

theorem exec_brk_stops : StopsAtFirst [(0xFFFE, .read), (0xFFFF, .read)] s.warnings (exec .brk s) :=
  .cons (fun ha => absurd ha.2 (by decide)) fun _ => .cons (fun ha => absurd ha.2 (by decide)) fun _ =>
    .nil (exec_brk_completes hs)

/-- The instructions without an operand. -/
theorem exec_noOperand_stops (hsrc : i.source = none) (hdest : i.dest = none) (ht : i.target = none) :
    StopsAtFirst (targetReads i) s.warnings (exec i s) := by
  by_cases h : targetReads i = []
  · rw [h]
    exact .nil (exec_noOperand_completes hsrc hdest ht h s)
  · cases i
    case jmpInd w => exact exec_jmpInd_stops hs w
    case brk => exact exec_brk_stops hs
    all_goals exact absurd rfl h

/-- R76, R141: every instruction stops at the first of its accesses that is unmapped. -/
theorem exec_stops (i : Instr) : StopsAtFirst (accesses i s) s.warnings (exec i s) := by
  cases hsrc : i.source with
  | some src =>
    cases src with
    | imm v =>
      simp only [accesses, hsrc]
      exact .nil ⟨_, exec_of_read (src := .imm v) hsrc rfl⟩
    | mem m =>
      simp only [accesses, hsrc]
      exact exec_source_stops hs hsrc
  | none =>
    cases hdest : i.dest with
    | some m =>
      simp only [accesses, hsrc, hdest]
      exact exec_dest_stops hs hdest
    | none =>
      cases ht : i.target with
      | none =>
        simp only [accesses, hsrc, hdest, ht]
        exact exec_noOperand_stops hs hsrc hdest ht
      | some tg =>
        cases tg with
        | acc =>
          simp only [accesses, hsrc, hdest, ht]
          exact .nil ⟨_, (exec_target ht s).1⟩
        | mem m =>
          simp only [accesses, hsrc, hdest, ht]
          exact exec_target_stops hs ht

end

/-- Settles O48: each shape of instruction stops at the first of its accesses that is unmapped. -/
theorem execStopsExactlyAtAnUnmappedAccess : Obligations.ExecStopsExactlyAtAnUnmappedAccess := fun i _ hs =>
  exec_stops hs i

/-! The step. -/

theorem answer_ne_refused (x : Except Fault State) (r : Refusal) : answer x ≠ .refused r := by
  cases x <;> exact nofun

theorem exec_noOperand_ne_refused {i : Instr} (hsrc : i.source = none) (hdest : i.dest = none) (ht : i.target = none)
    (s : State) (r : Refusal) : exec i s ≠ .refused r := by
  by_cases h : targetReads i = []
  · obtain ⟨t, e⟩ := exec_noOperand_completes hsrc hdest ht h s
    rw [e]
    exact nofun
  · cases i
    case brk => rw [exec_brk]; exact answer_ne_refused _ r
    case jmpInd w =>
      cases hr : busRead w (s.advance 3) with
      | ok x => rw [exec_jmpInd_read hr]; exact answer_ne_refused _ r
      | error f => rw [exec_jmpInd_read_error hr]; exact nofun
    all_goals exact absurd rfl h

/-- Every instruction has its meaning. -/
theorem exec_ne_refused (i : Instr) (s : State) (r : Refusal) : exec i s ≠ .refused r := by
  cases hsrc : i.source with
  | some src =>
    cases hr : readSource src (s.advance i.length) with
    | ok x => rw [exec_of_read hsrc hr]; exact nofun
    | error f => rw [exec_of_read_error hsrc hr]; exact nofun
  | none =>
    cases hdest : i.dest with
    | some m => rw [exec_of_dest hdest]; exact answer_ne_refused _ r
    | none =>
      cases ht : i.target with
      | none => exact exec_noOperand_ne_refused hsrc hdest ht s r
      | some tg =>
        cases tg with
        | acc => rw [(exec_target ht s).1]; exact nofun
        | mem m =>
          cases hr : busRead (effAddr m s) (s.advance i.length) with
          | ok x => rw [exec_of_modify_read ht hr]; exact answer_ne_refused _ r
          | error f => rw [exec_of_modify_read_error ht hr]; exact nofun

theorem step_ne_refused (s : State) (r : Refusal) : step s ≠ .refused r := by
  cases hf : fetch s.begin with
  | ok x => rw [step_of_fetch hf]; exact exec_ne_refused x.1 x.2 r
  | error f => rw [step_of_fetch_error hf]; exact nofun

/-- R76: with nothing supplied at 0x2000-0x7FFF and a mapper that answers its whole window, a step stops only there. -/
theorem step_plainMap {s : State} (hs : s.plainMap) :
    (∃ u, step s = .next u) ∨ ∃ a k l, step s = .fault (.invalidBusAddress a k l) ∧ unmapped a := by
  rcases fetch_plainMap (s := s.begin) hs with ⟨i, hf⟩ | ⟨a, -, ha, hf⟩
  · rw [step_of_fetch hf]
    exact (exec_stops (s := s.begin) hs i).next_or_fault
  · exact .inr ⟨a, .read, _, step_of_fetch_error hf, ha⟩

/-- Settles O54: no arm of exec refuses, and a run keeps the memory map it began with. -/
theorem stepStopsOnlyAtUnmappedAddresses : Obligations.StepStopsOnlyAtUnmappedAddresses := by
  refine ⟨step_ne_refused, fun s t hs hreach => step_plainMap ?_⟩
  obtain ⟨-, hmapper, hext⟩ := ((busInvariant_sameConfiguration s).reaches hreach (.refl s)).sameCartridge
  rwa [State.plainMap, hmapper, hext]

end Sys2Proof.Machine
end
